-- ==== Sys2Proof/Word.lean ====
section
/-! DEFINITION. The widths the spec names: bus bytes, command words, bus addresses, request words and
operation codes. -/

namespace Sys2Proof

/-- One byte of a bus transaction or of `REQ.DATA` (R73, R106). -/
abbrev Byte := BitVec 8

/-- A 16-bit command word of the command table (R39, R113). -/
abbrev CommandWord := BitVec 16

/-- A 7-bit target address on the two-wire bus (R70). -/
abbrev BusAddr := BitVec 7

/-- A 64-bit request word `REQ` (R101). -/
abbrev Request := BitVec 64

/-- The operation code `OP = REQ[63:59]` (R102). -/
abbrev OpCode := BitVec 5

end Sys2Proof
end

