-- ==== Sys2Proof/Config.lean ====
section
/-! DEFINITION. The configuration `CONFIG` the block latches at reset (R10, R38, R39), the answers the bus can
give (R77), and the free values: opaque constants with no body, one for each value the spec leaves open. -/

namespace Sys2Proof

/-- Repeatability (R16, R104). -/
inductive Rep where
  | high | medium | low
  deriving DecidableEq, Repr, Inhabited

/-- The periodic measurement rates 0.5, 1, 2, 4 and 10 Hz (R11, R103). -/
inductive Rate where
  | hz05 | hz1 | hz2 | hz4 | hz10
  deriving DecidableEq, Repr, Inhabited

/-- The 28 keys of the command table (R39). -/
inductive CtKey where
  | singleShot (rep : Rep)
  | periodic (rate : Rate) (rep : Rep)
  | acceleratedResponse
  | stop
  | softReset
  | status
  | clearStatus
  | serialNumber
  | fetch
  | heaterEnable
  | heaterDisable
  | busAddress
  deriving DecidableEq, Repr

/-- Three command words keyed by repeatability; an entry may be absent (R10, R39). -/
structure RepWords where
  high : Option CommandWord
  medium : Option CommandWord
  low : Option CommandWord
  deriving DecidableEq, Repr

/-- The periodic entries, keyed by rate and then by repeatability (R39). -/
structure PeriodicWords where
  hz05 : RepWords
  hz1 : RepWords
  hz2 : RepWords
  hz4 : RepWords
  hz10 : RepWords
  deriving DecidableEq, Repr

/-- The command table `CT`: 27 command words and the bus address, each present or absent (R39). -/
structure CommandTable where
  singleShot : RepWords
  periodic : PeriodicWords
  acceleratedResponse : Option CommandWord
  stop : Option CommandWord
  softReset : Option CommandWord
  status : Option CommandWord
  clearStatus : Option CommandWord
  serialNumber : Option CommandWord
  fetch : Option CommandWord
  heaterEnable : Option CommandWord
  heaterDisable : Option CommandWord
  busAddress : Option BusAddr
  deriving DecidableEq, Repr

/-- `STATUS_BIT_ORDER` (R10, R170). -/
inductive StatusBitOrder where
  | msbIsBit0 | lsbIsBit0
  deriving DecidableEq, Repr

/-- `CONFIG` (R38). `BUS_ADDR` is the table's `busAddress` (R71). `DEWPOINT` is a function, and state is plain
data: `numerics` numbers the evaluation the `CFG` port presents, and `Config.dewPointRoundsUp` gives each
number its choices (assumption 4). -/
structure Config where
  ct : CommandTable
  /-- `BUS_INDEX`; `none` is unset (R286). -/
  busIndex : Option Nat
  /-- `UNAVAILABLE_BUS`, a finite set of bus indices. -/
  unavailableBus : List Nat
  /-- `STATUS_DEFAULT_RD`; `none` is unset (R10, R286). -/
  statusDefaultRd : Option Bool
  statusBitOrder : StatusBitOrder
  tCmdSettleUs : Nat
  numerics : Nat
  deriving DecidableEq, Repr

/-- The adapter's errors (R74, R280). -/
inductive BusError where
  | nack | timeout | io
  deriving DecidableEq, Repr, Inhabited

/-- What the bus can answer to a write (R74, R77). -/
inductive WriteAnswer where
  | ack
  | err (e : BusError)
  deriving DecidableEq, Repr, Inhabited

/-- What the bus can answer to a read: any bytes of any length, or an error (R75, R77). -/
inductive ReadAnswer where
  | data (bs : List Byte)
  | err (e : BusError)
  deriving DecidableEq, Repr, Inhabited

/-- FREE VALUE: the bus's answer to the n-th write that the state lists no answer for (R77; assumption 2). -/
opaque Config.freeWriteAnswer : Nat → WriteAnswer

/-- FREE VALUE: the bus's answer to the n-th read that the state lists no answer for (R77; assumption 2). -/
opaque Config.freeReadAnswer : Nat → ReadAnswer

/-- FREE VALUE: `CRC_R` between two operations (R42; assumption 3). -/
opaque Config.freeCrcRegister : Nat → Byte

/-- FREE VALUE: `FRAME` between two operations (R43; assumption 3). -/
opaque Config.freeFrame : Nat → Vector Byte 6

/-- FREE VALUE: whether the evaluation `numerics` of `DEWPOINT` gives the upper or the lower neighbour of the
exact dew point for a temperature in 0.01 degC and a humidity in 0.001 % (R168; assumption 4). -/
opaque Config.dewPointRoundsUp : Nat → Int → Nat → Bool

/-- A complete command table: the typical words of `spec/93_implementation_defined.md` G4, which the example
programs of `spec/95_test_vectors.md` L3 are configured with. -/
def Config.exampleTable : CommandTable where
  singleShot := ⟨some 0x2400, some 0x240B, some 0x2416⟩
  periodic :=
    { hz05 := ⟨some 0x2032, some 0x2024, some 0x202F⟩
      hz1 := ⟨some 0x2130, some 0x2126, some 0x212D⟩
      hz2 := ⟨some 0x2236, some 0x2220, some 0x222B⟩
      hz4 := ⟨some 0x2334, some 0x2322, some 0x2329⟩
      hz10 := ⟨some 0x2737, some 0x2721, some 0x272A⟩ }
  acceleratedResponse := some 0x2B32
  stop := some 0x3093
  softReset := some 0x30A2
  status := some 0xF32D
  clearStatus := some 0x3041
  serialNumber := some 0x3780
  fetch := some 0xE000
  heaterEnable := some 0x306D
  heaterDisable := some 0x3066
  busAddress := some 0x44

/-- The configuration the spec's example programs start from (L3). `State.reset` has latched it: the spec makes
every one of these an input of reset and gives them no reset value (DESIGN CHOICE, assumption 1). -/
def Config.example : Config where
  ct := Config.exampleTable
  busIndex := some 1
  unavailableBus := [0, 2]
  statusDefaultRd := some false
  statusBitOrder := .msbIsBit0
  tCmdSettleUs := 500
  numerics := 0

end Sys2Proof
end

