-- ==== Sys2Proof/Machine/Operands.lean ====
section
/-! DEFINITION. Operand codes and what they select: repeatability and rate (R103, R104), the command table's entries
(R39), the bus address (R71), the settle durations (R202), and the byte order of a command word (R73). -/

namespace Sys2Proof.Machine

/-- The repeatability a `REP` code stands for; none for code 3 (R104). -/
def repOfCode (c : BitVec 2) : Option Rep :=
  match c.toNat with
  | 0 => some .high
  | 1 => some .medium
  | 2 => some .low
  | _ => none

/-- The rate a `RATE` code stands for; none for codes 5 to 7 (R103). -/
def rateOfCode (c : BitVec 3) : Option Rate :=
  match c.toNat with
  | 0 => some .hz05
  | 1 => some .hz1
  | 2 => some .hz2
  | 3 => some .hz4
  | 4 => some .hz10
  | _ => none

/-- The code of a rate, as `MODE[4:2]` holds it (R34, R103). -/
def rateCode : Rate → BitVec 3
  | .hz05 => 0
  | .hz1 => 1
  | .hz2 => 2
  | .hz4 => 3
  | .hz10 => 4

/-- The entry of a repeatability. -/
def repWord (t : RepWords) : Rep → Option CommandWord
  | .high => t.high
  | .medium => t.medium
  | .low => t.low

/-- The entries of a rate. -/
def rateWords (t : PeriodicWords) : Rate → RepWords
  | .hz05 => t.hz05
  | .hz1 => t.hz1
  | .hz2 => t.hz2
  | .hz4 => t.hz4
  | .hz10 => t.hz10

/-- The command word of a key, none where it is absent; the bus address is no command word (R39). -/
def tableWord (t : CommandTable) : CtKey → Option CommandWord
  | .singleShot rep => repWord t.singleShot rep
  | .periodic rate rep => repWord (rateWords t.periodic rate) rep
  | .acceleratedResponse => t.acceleratedResponse
  | .stop => t.stop
  | .softReset => t.softReset
  | .status => t.status
  | .clearStatus => t.clearStatus
  | .serialNumber => t.serialNumber
  | .fetch => t.fetch
  | .heaterEnable => t.heaterEnable
  | .heaterDisable => t.heaterDisable
  | .busAddress => none

/-- `CT.key`: the command word an operation sends. The default stands for an absent entry; configCheck then failed
(R286) and no operation gets as far as sending a word (R281). -/
def commandWord (cfg : Config) (key : CtKey) : CommandWord := (tableWord cfg.ct key).getD 0

/-- `BUS_ADDR`, the configured `CT.bus_address` (R71); the default as in `commandWord`. -/
def busAddr (cfg : Config) : BusAddr := cfg.ct.busAddress.getD 0

/-- `SettleFor(rep)` in microseconds (R202). -/
def settleFor : Rep → Nat
  | .high => 16000
  | .medium => 7000
  | .low => 5000

/-- `T_MODE_ENTRY` in microseconds (R202). -/
def modeEntrySettle : Nat := 500

/-- The byte `v[15:8]` of a command word, sent first (R73, R74). -/
def highByte (v : CommandWord) : Byte := v.extractLsb' 8 8

/-- The byte `v[7:0]` of a command word (R73, R74). -/
def lowByte (v : CommandWord) : Byte := v.extractLsb' 0 8

end Sys2Proof.Machine
end

