-- ==== Sys2Proof/Syntax.lean ====
section
/-! DEFINITION. The 17 operations of `spec/opcode_table.json`, one constructor a row, each with the operand
fields its row of R107 says it uses. `RATE` and `REP` are carried as codes: a word with `RATE` 5 to 7 or `REP` 3
still selects its operation by mask and match (R108), and the operation's own admission refuses it (R281). -/

namespace Sys2Proof

inductive Instr where
  /-- CRC8 `D0, D1` (R144). -/
  | crc8 (d0 d1 : Byte)
  /-- VALIDATE `D0, D1, D2` (R145). -/
  | validate (d0 d1 d2 : Byte)
  /-- DECODE `D0 .. D5` (R174). -/
  | decode (d0 d1 d2 d3 d4 d5 : Byte)
  /-- SINGLE_SHOT `REP` (R204). -/
  | singleShot (rep : BitVec 2)
  /-- START_PERIODIC `RATE, REP` (R205). -/
  | startPeriodic (rate : BitVec 3) (rep : BitVec 2)
  /-- READ_DATA (R206). -/
  | readData
  /-- FETCH (R207). -/
  | fetch
  /-- START_ART (R208). -/
  | startArt
  /-- STOP (R209). -/
  | stop
  /-- SOFT_RESET (R240). -/
  | softReset
  /-- STATUS (R241). -/
  | status
  /-- CHECK_STATUS (R242). -/
  | checkStatus
  /-- SERIAL (R243). -/
  | serial
  /-- HEATER_EN (R244). -/
  | heaterEn
  /-- HEATER_DIS (R245). -/
  | heaterDis
  /-- CLEAR_STATUS (R246). -/
  | clearStatus
  /-- CLOSE (R247). -/
  | close
  deriving DecidableEq, Repr

end Sys2Proof
end

