-- ==== Sys2Proof/WellFormed.lean ====
section
/-! DEFINITION. Which instructions the spec admits as requests: the operand-code checks of R110 (BAD_RATE and
BAD_REP). The checks on the bits of a request word (BAD_OP, UNUSED_FIELD) are the decoder's. -/

namespace Sys2Proof

/-- `REP` codes 0, 1 and 2 are repeatabilities, 3 is none (R104). -/
def repCodeOk (rep : BitVec 2) : Bool := rep.toNat < 3

/-- `RATE` codes 0 to 4 are rates, 5 to 7 are none (R103). -/
def rateCodeOk (rate : BitVec 3) : Bool := rate.toNat ≤ 4

/-- The operand codes of an instruction are legal (the last two checks of R110). -/
def Instr.wellFormed : Instr → Bool
  | .singleShot rep => repCodeOk rep
  | .startPeriodic rate rep => rateCodeOk rate && repCodeOk rep
  | .crc8 _ _ | .validate _ _ _ | .decode _ _ _ _ _ _ => true
  | .readData | .fetch | .startArt | .stop | .softReset | .status | .checkStatus => true
  | .serial | .heaterEn | .heaterDis | .clearStatus | .close => true

end Sys2Proof
end

