-- ==== Sys2Proof/Decode.lean ====
section
/-! DEFINITION. The request encoding `REQ64` (R101 to R112): its fields, the opcode map, `legal` as R110 writes it,
the decoder (total on every 64-bit word, rejecting by name), and after it the encoder and the assembler text. -/

namespace Sys2Proof

/-- `OP = REQ[63:59]` (R102). -/
def opField (w : Request) : OpCode := w.extractLsb' 59 5

/-- `RATE = REQ[58:56]` (R103). -/
def rateField (w : Request) : BitVec 3 := w.extractLsb' 56 3

/-- `REP = REQ[55:54]` (R104). -/
def repField (w : Request) : BitVec 2 := w.extractLsb' 54 2

/-- `RSVD = REQ[53:48]` (R105). -/
def rsvdField (w : Request) : BitVec 6 := w.extractLsb' 48 6

/-- `Dk = REQ[47-8k : 40-8k]` for k = 0 to 5 (R106). -/
def dataByte (w : Request) (k : Nat) : Byte := w.extractLsb' (40 - 8 * k) 8

/-- The details of InvalidParameter (R280), in the order R110 checks them. -/
inductive ParamDetail where
  | badOp | unusedField | badRate | badRep
  deriving DecidableEq, Repr

/-- One row of the opcode map (R108). `fixed` is the row's match value. -/
structure OpRow where
  op : OpCode
  mnemonic : String
  fixed : Request
  mask : Request
  deriving DecidableEq, Repr

/-- The opcode map of R108, row for row. -/
def opRows : List OpRow :=
  [ ⟨0x01, "CRC8", 0x0800000000000000, 0xFFFF0000FFFFFFFF⟩,
    ⟨0x02, "VALIDATE", 0x1000000000000000, 0xFFFF000000FFFFFF⟩,
    ⟨0x03, "DECODE", 0x1800000000000000, 0xFFFF000000000000⟩,
    ⟨0x04, "SINGLE_SHOT", 0x2000000000000000, 0xFF3FFFFFFFFFFFFF⟩,
    ⟨0x05, "START_PERIODIC", 0x2800000000000000, 0xF83FFFFFFFFFFFFF⟩,
    ⟨0x06, "READ_DATA", 0x3000000000000000, 0xFFFFFFFFFFFFFFFF⟩,
    ⟨0x07, "FETCH", 0x3800000000000000, 0xFFFFFFFFFFFFFFFF⟩,
    ⟨0x08, "START_ART", 0x4000000000000000, 0xFFFFFFFFFFFFFFFF⟩,
    ⟨0x09, "STOP", 0x4800000000000000, 0xFFFFFFFFFFFFFFFF⟩ ] ++
  [ ⟨0x0A, "SOFT_RESET", 0x5000000000000000, 0xFFFFFFFFFFFFFFFF⟩,
    ⟨0x0B, "STATUS", 0x5800000000000000, 0xFFFFFFFFFFFFFFFF⟩,
    ⟨0x0C, "CHECK_STATUS", 0x6000000000000000, 0xFFFFFFFFFFFFFFFF⟩,
    ⟨0x0D, "SERIAL", 0x6800000000000000, 0xFFFFFFFFFFFFFFFF⟩,
    ⟨0x0E, "HEATER_EN", 0x7000000000000000, 0xFFFFFFFFFFFFFFFF⟩,
    ⟨0x0F, "HEATER_DIS", 0x7800000000000000, 0xFFFFFFFFFFFFFFFF⟩,
    ⟨0x10, "CLEAR_STATUS", 0x8000000000000000, 0xFFFFFFFFFFFFFFFF⟩,
    ⟨0x11, "CLOSE", 0x8800000000000000, 0xFFFFFFFFFFFFFFFF⟩ ]

/-- The row of an operation code; none for the undefined codes 0x00 and 0x12 to 0x1F (R109). -/
def rowOf (op : OpCode) : Option OpRow := opRows.find? (fun r => r.op == op)

/-- A word selects a row exactly when its masked bits are the row's match value (R108). -/
def selects (w : Request) (r : OpRow) : Bool := w &&& r.mask == r.fixed

/-- `legal(REQ)` of R110: `none` is Ok, `some d` is Bad(d) with the first failing check. -/
def legal (w : Request) : Option ParamDetail :=
  match rowOf (opField w) with
  | none => some .badOp
  | some r =>
    if selects w r = false then some .unusedField
    else if opField w = 0x05 ∧ 4 < (rateField w).toNat then some .badRate
    else if (opField w = 0x04 ∨ opField w = 0x05) ∧ repField w = 3 then some .badRep
    else none

/-- What the decoder answers: an instruction, or the name of the encoding check the word fails. -/
inductive Decoded where
  | instr (i : Instr)
  | bad (d : ParamDetail)
  deriving DecidableEq, Repr

/-- The instruction of a word whose operation code is defined, once every must-be-0 bit is 0 (R107, R108). -/
def ifSelected (w fixed mask : Request) (i : Instr) : Decoded :=
  if w &&& mask = fixed then .instr i else .bad .unusedField

/-- The decoder: the instruction a request word selects (R108), or BAD_OP or UNUSED_FIELD. The operand codes
`RATE` and `REP` are checked by the operation's admission (R205, R204: "raised by `admit`"). -/
def decodeRequest (w : Request) : Decoded :=
  match (opField w).toNat with
  | 0x01 => ifSelected w 0x0800000000000000 0xFFFF0000FFFFFFFF (.crc8 (dataByte w 0) (dataByte w 1))
  | 0x02 => ifSelected w 0x1000000000000000 0xFFFF000000FFFFFF
      (.validate (dataByte w 0) (dataByte w 1) (dataByte w 2))
  | 0x03 => ifSelected w 0x1800000000000000 0xFFFF000000000000
      (.decode (dataByte w 0) (dataByte w 1) (dataByte w 2) (dataByte w 3) (dataByte w 4) (dataByte w 5))
  | 0x04 => ifSelected w 0x2000000000000000 0xFF3FFFFFFFFFFFFF (.singleShot (repField w))
  | 0x05 => ifSelected w 0x2800000000000000 0xF83FFFFFFFFFFFFF (.startPeriodic (rateField w) (repField w))
  | 0x06 => ifSelected w 0x3000000000000000 0xFFFFFFFFFFFFFFFF .readData
  | 0x07 => ifSelected w 0x3800000000000000 0xFFFFFFFFFFFFFFFF .fetch
  | 0x08 => ifSelected w 0x4000000000000000 0xFFFFFFFFFFFFFFFF .startArt
  | 0x09 => ifSelected w 0x4800000000000000 0xFFFFFFFFFFFFFFFF .stop
  | 0x0A => ifSelected w 0x5000000000000000 0xFFFFFFFFFFFFFFFF .softReset
  | 0x0B => ifSelected w 0x5800000000000000 0xFFFFFFFFFFFFFFFF .status
  | 0x0C => ifSelected w 0x6000000000000000 0xFFFFFFFFFFFFFFFF .checkStatus
  | 0x0D => ifSelected w 0x6800000000000000 0xFFFFFFFFFFFFFFFF .serial
  | 0x0E => ifSelected w 0x7000000000000000 0xFFFFFFFFFFFFFFFF .heaterEn
  | 0x0F => ifSelected w 0x7800000000000000 0xFFFFFFFFFFFFFFFF .heaterDis
  | 0x10 => ifSelected w 0x8000000000000000 0xFFFFFFFFFFFFFFFF .clearStatus
  | 0x11 => ifSelected w 0x8800000000000000 0xFFFFFFFFFFFFFFFF .close
  | _ => .bad .badOp

/-- The operation code of an instruction (R108). -/
def Instr.opCode : Instr → OpCode
  | .crc8 _ _ => 0x01
  | .validate _ _ _ => 0x02
  | .decode _ _ _ _ _ _ => 0x03
  | .singleShot _ => 0x04
  | .startPeriodic _ _ => 0x05
  | .readData => 0x06
  | .fetch => 0x07
  | .startArt => 0x08
  | .stop => 0x09
  | .softReset => 0x0A
  | .status => 0x0B
  | .checkStatus => 0x0C
  | .serial => 0x0D
  | .heaterEn => 0x0E
  | .heaterDis => 0x0F
  | .clearStatus => 0x10
  | .close => 0x11

/-- A request word laid out field by field (R101); `DATA` is the six bytes in bus order (R106). -/
def packRequest (op : OpCode) (rate : BitVec 3) (rep : BitVec 2) (d0 d1 d2 d3 d4 d5 : Byte) : Request :=
  op ++ rate ++ rep ++ (0 : BitVec 6) ++ d0 ++ d1 ++ d2 ++ d3 ++ d4 ++ d5

/-- The encoder (R112): the operand fields placed by R101 to R106, every other bit 0. -/
def encode (i : Instr) : Request :=
  match i with
  | .crc8 d0 d1 => packRequest i.opCode 0 0 d0 d1 0 0 0 0
  | .validate d0 d1 d2 => packRequest i.opCode 0 0 d0 d1 d2 0 0 0
  | .decode d0 d1 d2 d3 d4 d5 => packRequest i.opCode 0 0 d0 d1 d2 d3 d4 d5
  | .singleShot rep => packRequest i.opCode 0 rep 0 0 0 0 0 0
  | .startPeriodic rate rep => packRequest i.opCode rate rep 0 0 0 0 0 0
  | .readData | .fetch | .startArt | .stop | .softReset | .status | .checkStatus
  | .serial | .heaterEn | .heaterDis | .clearStatus | .close => packRequest i.opCode 0 0 0 0 0 0 0 0

/-- The instruction the decoder reads from a table row's word: a request is 64 bits and nothing else (R111), the
bits above `nbits` are 0. -/
def decodeTableWord (nbits w : Nat) : Option Instr :=
  if nbits ≤ 64 then
    match decodeRequest (BitVec.ofNat 64 (w % 2 ^ nbits)) with
    | .instr i => some i
    | .bad _ => none
  else none

/-- A byte as an assembler literal, two hexadecimal digits (R112). -/
def byteText (b : Byte) : String :=
  "0x" ++ String.ofList [Nat.digitChar (b.toNat / 16), Nat.digitChar (b.toNat % 16)]

/-- A repeatability operand (R112); `none` for code 3, which has no spelling. -/
def repText (rep : BitVec 2) : Option String :=
  match rep.toNat with
  | 0 => some "HIGH"
  | 1 => some "MEDIUM"
  | 2 => some "LOW"
  | _ => none

/-- A rate operand (R112); `none` for codes 5 to 7. -/
def rateText (rate : BitVec 3) : Option String :=
  match rate.toNat with
  | 0 => some "0.5HZ"
  | 1 => some "1HZ"
  | 2 => some "2HZ"
  | 3 => some "4HZ"
  | 4 => some "10HZ"
  | _ => none

/-- The mnemonic of an instruction, from its row of the opcode map (R108). -/
def Instr.mnemonic (i : Instr) : String :=
  match rowOf i.opCode with
  | some r => r.mnemonic
  | none => ""

/-- The assembler text of an instruction (R112): mnemonic, then comma-separated operands. -/
def Instr.text (i : Instr) : Option String :=
  match i with
  | .crc8 d0 d1 => some (i.mnemonic ++ " " ++ ", ".intercalate ([d0, d1].map byteText))
  | .validate d0 d1 d2 => some (i.mnemonic ++ " " ++ ", ".intercalate ([d0, d1, d2].map byteText))
  | .decode d0 d1 d2 d3 d4 d5 =>
    some (i.mnemonic ++ " " ++ ", ".intercalate ([d0, d1, d2, d3, d4, d5].map byteText))
  | .singleShot rep => (repText rep).map (fun p => i.mnemonic ++ " " ++ p)
  | .startPeriodic rate rep =>
    match rateText rate, repText rep with
    | some r, some p => some (i.mnemonic ++ " " ++ r ++ ", " ++ p)
    | _, _ => none
  | .readData | .fetch | .startArt | .stop | .softReset | .status | .checkStatus
  | .serial | .heaterEn | .heaterDis | .clearStatus | .close => some i.mnemonic

end Sys2Proof
end

