-- ==== Sys2Proof/Machine/State.lean ====
section
/-! DEFINITION. The records the block produces, its state as plain data, the reasons a step can stop, and the
state right after reset. -/

namespace Sys2Proof.Machine

/-- `LIFECYCLE` (R33). Value 3 is never held and has no constructor. -/
inductive Lifecycle where
  | opened | closed | configError
  deriving DecidableEq, Repr

/-- `MODE` (R34). -/
inductive Mode where
  | idle
  | singleShot
  | periodic (rate : Rate)
  | acceleratedResponse
  deriving DecidableEq, Repr

/-- A Reading record (R40). Temperatures are in 0.01 degC, the humidity in 0.001 %. -/
structure Reading where
  tRaw : BitVec 16
  rhRaw : BitVec 16
  tC100 : Int
  rhM : Nat
  dpC100 : Int
  tDeg : Bool
  rhDeg : Bool
  deg : Bool
  deriving DecidableEq, Repr

/-- A StatusRegister record (R41); bit k of `flags` is `FLAGS[k]`. -/
structure StatusRegister where
  sRaw : BitVec 16
  flags : BitVec 7
  sDeg : Bool
  deriving DecidableEq, Repr

/-- The data words a ProtocolFault can name (R280). -/
inductive WordName where
  | wordT | wordRh | wordStatus | wordSn0 | wordSn1
  deriving DecidableEq, Repr

/-- The details of UsageFault (R280, R287). -/
inductive UsageDetail where
  | closed | modeConflict
  deriving DecidableEq, Repr

/-- The parameters whose absence configCheck reports (R286). -/
inductive ParamName where
  | busIndex | statusDefaultRd
  deriving DecidableEq, Repr

/-- The details of ConfigurationError (R280, R286). -/
inductive ConfigDetail where
  | busUnavailable
  | tableEntryMissing (key : CtKey)
  | paramUnset (p : ParamName)
  deriving DecidableEq, Repr

/-- A fault of the block with its detail (R280): each detail belongs to one class. -/
inductive Detail where
  | protocol (w : WordName)
  | usage (u : UsageDetail)
  | invalidParameter (p : ParamDetail)
  | transport (e : BusError)
  | configuration (c : ConfigDetail)
  deriving DecidableEq, Repr

/-- `RSP.CODE` (R280). Codes 6 and 7 are never produced. -/
inductive RspCode where
  | ok | protocolFault | usageFault | invalidParameter | transportError | configurationError
  deriving DecidableEq, Repr

/-- `RSP.PAYLOAD` (R44). -/
inductive Payload where
  | empty
  | crc (c : Byte)
  | matched (m : Bool)
  | reading (r : Reading)
  | status (s : StatusRegister)
  | check (s : StatusRegister) (dev : BitVec 7)
  | serial (sn : BitVec 32) (d0 d1 : Bool)
  deriving DecidableEq, Repr

/-- A response record `RSP` (R44). -/
structure Response where
  code : RspCode
  detail : Option Detail
  payload : Payload
  deriving DecidableEq, Repr

/-- An entry of `BUS_LOG` (R46). -/
inductive BusEvent where
  | write (addr : BusAddr) (hi lo : Byte) (ans : WriteAnswer)
  | settle (us : Nat)
  | read (addr : BusAddr) (n : Nat) (ans : ReadAnswer)
  | resetMark
  deriving DecidableEq, Repr

/-- What a Fault event names as its origin: the `OP` field of the request, or RESET (R283, R320). -/
inductive Origin where
  | request (op : OpCode)
  | reset
  deriving DecidableEq, Repr

/-- An entry of `SINK_LOG` (R300). -/
inductive SinkEvent where
  | fault (code : RspCode) (detail : Detail) (origin : Origin)
  | warning (k : Nat) (value : Bool)
  | writeDone (v : CommandWord)
  | resetDone (l : Lifecycle)
  deriving DecidableEq, Repr

/-- An entry of the one total order of an instance's bus and sink events, tagged with its port (R83). -/
inductive LogEvent where
  | bus (e : BusEvent)
  | sink (e : SinkEvent)
  deriving DecidableEq, Repr

/-- A move of the host (R48): a request word offered on `REQ`, or `RESET` with the inputs then on `CFG`. -/
inductive HostMove where
  | request (w : Request)
  | reset (cfg : Config)
  deriving DecidableEq, Repr

/-- The block's state (R32, R47), the observed responses (R332), and below them the inputs of the step (R50). -/
structure State where
  /-- `LIFECYCLE` (R33). -/
  lifecycle : Lifecycle
  /-- `MODE` (R34). -/
  mode : Mode
  /-- `LAST_READING` (R37). -/
  lastReading : Option Reading
  /-- `CONFIG` (R38). -/
  config : Config
  /-- `CRC_R` (R42). -/
  crcR : Byte
  /-- `FRAME` (R43). -/
  frame : Vector Byte 6
  /-- `BUS_LOG` and `SINK_LOG` as one merged list, oldest first (R46, R83). -/
  log : List LogEvent
  /-- The response port: the response presented, none while `RSP_VALID` is low (R44, R47). -/
  rsp : Option Response
  /-- `REQ_READY` (R47). -/
  reqReady : Bool
  /-- The sequence of responses presented, oldest first (R332). -/
  rspLog : List Response
  /-- INPUT: the host's moves not yet taken, oldest first (R48; assumption 5). -/
  inputs : List HostMove
  /-- INPUT: the bus's answers to the next writes, oldest first; `none` is a write the bus never answers
  (R77, R327; assumption 2). -/
  writeAnswers : List (Option WriteAnswer)
  /-- INPUT: the bus's answers to the next reads, oldest first; `none` as above. -/
  readAnswers : List (Option ReadAnswer)
  /-- How many write answers were drawn free (assumption 2). -/
  writesDrawn : Nat
  /-- How many read answers were drawn free (assumption 2). -/
  readsDrawn : Nat
  /-- How many times `CRC_R` and `FRAME` were left unspecified (assumption 3). -/
  hiddenDrawn : Nat
  deriving DecidableEq, Repr

/-- Why the machine is stuck. -/
inductive Fault where
  /-- Raised by any operation that issues a bus transaction the bus never answers: the block is held in its
  operation for ever, a stuck state (R327, U8). SAFE: the model stops where the hardware makes no progress. -/
  | busNeverAnswers
  deriving DecidableEq, Repr

/-- Where the model has no move. -/
inductive Refusal where
  /-- Answered by `exec`'s arm of an instruction that has no meaning yet; no arm answers it now. SAFE. -/
  | notModelled (mnemonic : String)
  /-- Answered by every operation in a state the spec says is never held: `MODE` = SingleShot between requests
  (R35, U17), or `LIFECYCLE` at odds with the configuration check (R33, R49). SAFE: no such state is reached. -/
  | stateNeverHeld
  /-- Answered by the step when the host takes `RESET` while `REQ_READY` is low (R48, R322, U7: "The model gives it
  no move"). UNSAFE as the spec itself says ("Errs toward proving"): what the hardware does then is not modelled. -/
  | resetDuringRequest
  deriving DecidableEq, Repr

/-- The machine right after a reset (R49, R320) that latched the example configuration (L3; assumption 1), with no
history before it. `CRC_R` and `FRAME` are unspecified there and hold zeros (assumption 3). -/
def State.reset : State where
  lifecycle := .opened
  mode := .idle
  lastReading := none
  config := Config.example
  crcR := 0
  frame := Vector.replicate 6 0
  log := [.bus .resetMark, .sink (.resetDone .opened)]
  rsp := none
  reqReady := true
  rspLog := []
  inputs := []
  writeAnswers := []
  readAnswers := []
  writesDrawn := 0
  readsDrawn := 0
  hiddenDrawn := 0

end Sys2Proof.Machine
end

