-- ==== Sys2Proof/Machine/ConfigCheck.lean ====
section
/-! DEFINITION. The configuration check of reset (R286). -/

namespace Sys2Proof.Machine

/-- The three repeatability keys in R39's order. -/
def repOrder : List Rep := [.high, .medium, .low]

/-- The five rates in R39's order. -/
def rateOrder : List Rate := [.hz05, .hz1, .hz2, .hz4, .hz10]

/-- The 28 keys in the order R286 checks them. -/
def keyOrder : List CtKey :=
  repOrder.map .singleShot ++ rateOrder.flatMap (fun rate => repOrder.map (.periodic rate)) ++
  [.acceleratedResponse, .stop, .softReset, .status, .clearStatus, .serialNumber, .fetch,
   .heaterEnable, .heaterDisable, .busAddress]

/-- Whether the table holds an entry for a key (R39). -/
def keyPresent (t : CommandTable) (key : CtKey) : Bool :=
  match key with
  | .busAddress => t.busAddress.isSome
  | k => (tableWord t k).isSome

/-- The first absent key of a list. -/
def firstAbsent (t : CommandTable) (keys : List CtKey) : Option CtKey :=
  keys.find? (fun k => !keyPresent t k)

/-- `configCheck(CONFIG)`: none is Ok, `some d` is Bad(d) with the first failing item (R286). -/
def configCheck (cfg : Config) : Option ConfigDetail :=
  match cfg.busIndex with
  | none => some (.paramUnset .busIndex)
  | some b =>
    if b ∈ cfg.unavailableBus then some .busUnavailable
    else
      match firstAbsent cfg.ct keyOrder with
      | some key => some (.tableEntryMissing key)
      | none => if cfg.statusDefaultRd.isNone then some (.paramUnset .statusDefaultRd) else none

end Sys2Proof.Machine
end

