-- ==== Sys2Proof/Machine/Convert.lean ====
section
/-! DEFINITION. Rounding and the conversions of raw codes to temperature and humidity (R163 to R165). -/

namespace Sys2Proof.Machine

/-- `round(n / d)`: an integer nearest to the rational n / d, for d > 0 (R164). Ties go up; R166 says that none
occurs in the uses below. -/
def roundQuotient (n : Int) (d : Nat) : Int :=
  (2 * n + d) / (2 * d)

/-- `T_C100 = round(-4500 + 17500 * T_RAW / 65535)` (R163). -/
def temperatureC100 (raw : BitVec 16) : Int :=
  roundQuotient (-4500 * 65535 + 17500 * (raw.toNat : Int)) 65535

/-- `h = round(10000 * RH_RAW / 65535)`, in 0.01 % (R165). -/
def humidityCenti (raw : BitVec 16) : Nat :=
  (roundQuotient (10000 * (raw.toNat : Int)) 65535).toNat

/-- `RH_M` in 0.001 %, clamped to 1 when the rounded value is below 0.01 % (R165). -/
def humidityMilli (raw : BitVec 16) : Nat :=
  if humidityCenti raw < 1 then 1 else 10 * humidityCenti raw

end Sys2Proof.Machine
end

