-- ==== Sys2Proof/Machine/DewPoint.lean ====
section
/-! DEFINITION. The dew point (R167, R168). The spec bounds `DEWPOINT` to the two integers next to 100 dp over the
reals and leaves the choice between them open. Here rational arithmetic encloses 100 dp, and a free value makes
the choice (assumption 4). -/

namespace Sys2Proof.Machine

/-- A rational interval. -/
structure Enclosure where
  lo : Rat
  hi : Rat
  deriving DecidableEq, Repr

/-- The first n terms of z + z^3/3 + z^5/5 + ..., the series of (1/2) ln((1+z)/(1-z)). -/
def atanhSum (z : Rat) : Nat → Rat
  | 0 => 0
  | n + 1 => atanhSum z n + z ^ (2 * n + 1) / (2 * n + 1)

/-- How many terms of the series are summed. -/
def seriesTerms : Nat := 24

/-- An enclosure of ln((1+z)/(1-z)) for 0 ≤ z < 1: the partial sum, and the partial sum with a bound of its tail. -/
def logRatio (z : Rat) : Enclosure :=
  { lo := 2 * atanhSum z seriesTerms
    hi := 2 * (atanhSum z seriesTerms + z ^ (2 * seriesTerms + 1) / (1 - z ^ 2)) }

/-- The power of two k with 2^k ≤ 100000 / m < 2^(k+1), for 1 ≤ m ≤ 100000. -/
def halvings (m : Nat) : Nat := Nat.log2 (100000 / m)

/-- The argument of the series for what is left of 100000 / m after the halvings. -/
def seriesArg (m : Nat) : Rat :=
  (100000 - 2 ^ halvings m * m) / (100000 + 2 ^ halvings m * m)

/-- An enclosure of ln(rh / 100) for `RH_M` = m, that is of ln(m / 100000) = -(k ln 2 + ln((1+z)/(1-z))). -/
def logHumidity (m : Nat) : Enclosure :=
  { lo := -(halvings m * (logRatio (1 / 3)).hi + (logRatio (seriesArg m)).hi)
    hi := -(halvings m * (logRatio (1 / 3)).lo + (logRatio (seriesArg m)).lo) }

/-- β: 17.62 over water (t ≥ 0), 22.46 over ice (R167). -/
def magnusBeta (t : Int) : Rat := if 0 ≤ t then 1762 / 100 else 2246 / 100

/-- λ: 243.12 over water (t ≥ 0), 272.62 over ice (R167). -/
def magnusLambda (t : Int) : Rat := if 0 ≤ t then 24312 / 100 else 27262 / 100

/-- 100 dp = 100 λ γ / (β - γ) with γ = l + β t / (λ + t), for a value l of ln(rh / 100) and t in 0.01 degC
(R168). -/
def dewCenti (t : Int) (l : Rat) : Rat :=
  let beta := magnusBeta t
  let lam := magnusLambda t
  let gamma := l + beta * (t / 100) / (lam + t / 100)
  100 * (lam * gamma / (beta - gamma))

/-- An enclosure of 100 dp; `dewCenti` grows with ln(rh / 100). -/
def dewEnclosure (t : Int) (m : Nat) : Enclosure :=
  { lo := dewCenti t (logHumidity m).lo
    hi := dewCenti t (logHumidity m).hi }

/-- One of the two integers next to a number the enclosure holds, as `up` says. Where an integer lies inside the
enclosure, that integer is next to the number and is taken; assumption 4 records that this happens for no input the
block produces. -/
def neighbour (e : Enclosure) (up : Bool) : Int :=
  if ⌈e.hi⌉ ≤ ⌊e.lo⌋ + 1 then if up then ⌈e.hi⌉ else ⌊e.lo⌋
  else ⌊e.lo⌋ + 1

/-- `DEWPOINT(T_C100, RH_M)` (R168): one of the two integers next to 100 dp, whichever the evaluation `numerics`
gives. -/
def dewPoint (numerics : Nat) (t : Int) (m : Nat) : Int :=
  neighbour (dewEnclosure t m) (Config.dewPointRoundsUp numerics t m)

end Sys2Proof.Machine
end

