-- ==== Sys2Proof/Machine/Checksum.lean ====
section
/-! DEFINITION. The Checksum Engine's function (R140 to R143). -/

namespace Sys2Proof.Machine

/-- One of the eight steps on `CRC_R`: shift left, and XOR the polynomial 0x31 when bit 7 was set (R140). -/
def crcShift (r : Byte) : Byte :=
  if r.getLsbD 7 then (r <<< 1) ^^^ 0x31 else r <<< 1

/-- One byte into `CRC_R`: XOR, then eight steps (R140). -/
def crcByte (r b : Byte) : Byte :=
  Nat.repeat crcShift 8 (r ^^^ b)

/-- `crc8(bs)`: from 0xFF over every byte in order (R140, R142). -/
def crc8 (bs : List Byte) : Byte :=
  bs.foldl crcByte 0xFF

/-- `checkWord(msb, lsb, c)`: whether the transmitted checksum matches (R143). -/
def checkWord (msb lsb c : Byte) : Bool :=
  crc8 [msb, lsb] == c

end Sys2Proof.Machine
end

