-- ==== Sys2Proof/Machine/Flags.lean ====
section
/-! DEFINITION. The status flags and their deviations (R170 to R172), the observation codes of `LIFECYCLE`, `MODE`
and `RSP.CODE` (R33, R34, R280). -/

namespace Sys2Proof.Machine

/-- `srcBit(S_RAW, i)`: the received bit the source numbers i (R170). -/
def srcBit (order : StatusBitOrder) (sRaw : BitVec 16) (i : Nat) : Bool :=
  match order with
  | .msbIsBit0 => sRaw.getLsbD (15 - i)
  | .lsbIsBit0 => sRaw.getLsbD i

/-- The source bit numbers of `FLAGS[0]` to `FLAGS[6]` (R171). -/
def flagPositions : List Nat := [0, 1, 4, 10, 11, 13, 15]

/-- The flags of a status word: bit k is the source bit `flagPositions[k]` (R171). -/
def statusFlags (order : StatusBitOrder) (sRaw : BitVec 16) : BitVec 7 :=
  BitVec.ofNat 7 ((flagPositions.zipIdx.map (fun p => (srcBit order sRaw p.1).toNat * 2 ^ p.2)).sum)

/-- `decodeStatus(msb, lsb, c)` (R171). -/
def decodeStatus (order : StatusBitOrder) (msb lsb c : Byte) : StatusRegister where
  sRaw := msb ++ lsb
  flags := statusFlags order (msb ++ lsb)
  sDeg := !checkWord msb lsb c

/-- `DEFAULT`: 0 but for reset_detected (k = 2), which is `STATUS_DEFAULT_RD` (R172). An unset parameter never gets
here: configCheck then failed (R286). -/
def defaultFlags (cfg : Config) : BitVec 7 :=
  if cfg.statusDefaultRd = some true then 0b0000100 else 0

/-- `deviations(FLAGS) = FLAGS ^ DEFAULT` (R172). -/
def deviations (cfg : Config) (flags : BitVec 7) : BitVec 7 := flags ^^^ defaultFlags cfg

/-- The Warning events of CHECK_STATUS: one for each deviating flag, in the order k = 0 to 6 (R242, R300). -/
def warnings (flags dev : BitVec 7) : List SinkEvent :=
  ((List.range 7).filter (fun k => dev.getLsbD k)).map (fun k => .warning k (flags.getLsbD k))

/-- The 2-bit encoding of `LIFECYCLE` (R33). -/
def lifecycleCode : Lifecycle → BitVec 2
  | .opened => 0
  | .closed => 1
  | .configError => 2

/-- `RSP.CODE`, 3 bits (R280). -/
def rspCodeBits : RspCode → BitVec 3
  | .ok => 0
  | .protocolFault => 1
  | .usageFault => 2
  | .invalidParameter => 3
  | .transportError => 4
  | .configurationError => 5

/-- The class a fault detail belongs to (R280). -/
def detailCode : Detail → RspCode
  | .protocol _ => .protocolFault
  | .usage _ => .usageFault
  | .invalidParameter _ => .invalidParameter
  | .transport _ => .transportError
  | .configuration _ => .configurationError

end Sys2Proof.Machine
end

