-- ==== Sys2Proof/Machine/Frames.lean ====
section
/-! DEFINITION. Decoding the fixed-layout frames: data words, the measurement frame and the serial number (R160 to
R162, R169, R173), and `MODE` as it is observed (R34). -/

namespace Sys2Proof.Machine

/-- Byte k of a received byte list. -/
def byteAt (bs : List Byte) (k : Nat) : Byte := bs.getD k 0

/-- `decodeWord(msb, lsb, c)`: the raw value, and whether its checksum failed (R160). -/
def decodeWord (msb lsb c : Byte) : BitVec 16 × Bool := (msb ++ lsb, !checkWord msb lsb c)

/-- `makeReading` (R169). -/
def makeReading (numerics : Nat) (t rh : BitVec 16 × Bool) : Reading where
  tRaw := t.1
  rhRaw := rh.1
  tC100 := temperatureC100 t.1
  rhM := humidityMilli rh.1
  dpC100 := dewPoint numerics (temperatureC100 t.1) (humidityMilli rh.1)
  tDeg := t.2
  rhDeg := rh.2
  deg := t.2 || rh.2

/-- `decodeFrame(bs)` (R114, R161). -/
def decodeFrame (numerics : Nat) (bs : List Byte) : Reading :=
  makeReading numerics (decodeWord (byteAt bs 0) (byteAt bs 1) (byteAt bs 2))
    (decodeWord (byteAt bs 3) (byteAt bs 4) (byteAt bs 5))

/-- The words of a Reading whose checksums failed, in the order they are reported (R174, R289). -/
def readingFaults (r : Reading) : List WordName :=
  (if r.tDeg then [.wordT] else []) ++ (if r.rhDeg then [.wordRh] else [])

/-- The status word as a reported word (R241). -/
def statusFaults (s : StatusRegister) : List WordName :=
  if s.sDeg then [.wordStatus] else []

/-- A serial-number response decoded (R173): the number and the two words' tags. -/
structure SerialNumber where
  sn : BitVec 32
  d0 : Bool
  d1 : Bool
  deriving DecidableEq, Repr

/-- `serialOf(bs)` (R117, R173). -/
def serialOf (bs : List Byte) : SerialNumber where
  sn := ((byteAt bs 0).zeroExtend 32 <<< 24) ||| ((byteAt bs 1).zeroExtend 32 <<< 16) |||
    ((byteAt bs 3).zeroExtend 32 <<< 8) ||| (byteAt bs 4).zeroExtend 32
  d0 := !checkWord (byteAt bs 0) (byteAt bs 1) (byteAt bs 2)
  d1 := !checkWord (byteAt bs 3) (byteAt bs 4) (byteAt bs 5)

/-- The serial words whose checksums failed, in the order they are reported (R243, R289). -/
def serialFaults (n : SerialNumber) : List WordName :=
  (if n.d0 then [.wordSn0] else []) ++ (if n.d1 then [.wordSn1] else [])

/-- `MODE[4:2] ‖ MODE[1:0]` (R34). -/
def modeCode : Mode → BitVec 5
  | .idle => 0
  | .singleShot => 1
  | .periodic rate => rateCode rate ++ (2 : BitVec 2)
  | .acceleratedResponse => 3

/-- The modes in which the sensor samples on its own: READ_DATA and FETCH are valid there (R206, R207). -/
def Mode.sampling : Mode → Bool
  | .periodic _ | .acceleratedResponse => true
  | .idle | .singleShot => false

end Sys2Proof.Machine
end

