-- ==== Sys2Proof/Machine/Ops.lean ====
section
/-! DEFINITION. The named operations over the state: its updates, the pseudocode primitives of R14 (BusWrite, BusRead,
Settle, Emit, raise, report, respond), admission (R281), taking a fault (R283) as one shared operation, and reset
(R320). -/

namespace Sys2Proof.Machine

/-- What a step answers. -/
abbrev Outcome := Host.Outcome State Fault Refusal

/-! ### Updates of the state -/

/-- Writes `LIFECYCLE`. -/
def State.setLifecycle (l : Lifecycle) (s : State) : State := { s with lifecycle := l }

/-- Writes `MODE`. -/
def State.setMode (m : Mode) (s : State) : State := { s with mode := m }

/-- Writes `LAST_READING`: the new Reading supersedes the old one (R37). -/
def State.setLastReading (r : Reading) (s : State) : State := { s with lastReading := some r }

/-- Appends to the histories (R46). -/
def State.append (es : List LogEvent) (s : State) : State := { s with log := s.log ++ es }

/-- Runs the Checksum Engine over `bs`: its register is left holding the checksum (R140). -/
def State.checksum (bs : List Byte) (s : State) : State := { s with crcR := crc8 bs }

/-- `FRAME[0 .. n-1] <- bs`; the bytes above keep their values (R75). -/
def State.fillFrame (bs : List Byte) (s : State) : State :=
  { s with frame := Vector.ofFn (fun i : Fin 6 => bs.getD i.val s.frame[i]) }

/-- Presents a response: `RSP_VALID`, the sequence of responses, and `REQ_READY` up again (R47, R282). -/
def State.present (r : Response) (s : State) : State :=
  { s with rsp := some r, rspLog := s.rspLog ++ [r], reqReady := true }

/-- Takes the write answer at hand: the first one listed, or one more free draw. -/
def State.consumeWrite (s : State) : State :=
  { s with
    writeAnswers := s.writeAnswers.tail
    writesDrawn := s.writesDrawn + if s.writeAnswers.isEmpty then 1 else 0 }

/-- Takes the read answer at hand: the first one listed, or one more free draw. -/
def State.consumeRead (s : State) : State :=
  { s with
    readAnswers := s.readAnswers.tail
    readsDrawn := s.readsDrawn + if s.readAnswers.isEmpty then 1 else 0 }

/-- Leaves `CRC_R` and `FRAME` unspecified, as they are between two operations (R42, R43; assumption 3). -/
def State.leaveHidden (s : State) : State :=
  { s with
    crcR := Config.freeCrcRegister s.hiddenDrawn
    frame := Config.freeFrame s.hiddenDrawn
    hiddenDrawn := s.hiddenDrawn + 1 }

/-- Accepts a request: `REQ_READY` falls and no response is presented until this request's own (R47). -/
def State.accept (rest : List HostMove) (s : State) : State :=
  { s with inputs := rest, reqReady := false, rsp := none }

/-! ### Views of the state -/

/-- The bus entries of a merged log. -/
def busEvents (es : List LogEvent) : List BusEvent :=
  es.filterMap (fun e => match e with | .bus b => some b | .sink _ => none)

/-- The sink entries of a merged log. -/
def sinkEvents (es : List LogEvent) : List SinkEvent :=
  es.filterMap (fun e => match e with | .sink k => some k | .bus _ => none)

/-- `BUS_LOG` (R46). -/
def State.busLog (s : State) : List BusEvent := busEvents s.log

/-- `SINK_LOG` (R46). -/
def State.sinkLog (s : State) : List SinkEvent := sinkEvents s.log

/-- The bus's answer to the next write: the first one listed, else a free one (R77); `none` is no answer ever. -/
def State.nextWriteAnswer (s : State) : Option WriteAnswer :=
  match s.writeAnswers with
  | [] => some (Config.freeWriteAnswer s.writesDrawn)
  | a :: _ => a

/-- The bus's answer to the next read: the first one listed, else a free one (R77); `none` is no answer ever. -/
def State.nextReadAnswer (s : State) : Option ReadAnswer :=
  match s.readAnswers with
  | [] => some (Config.freeReadAnswer s.readsDrawn)
  | a :: _ => a

/-- No listed answer is a silence (R327). -/
def State.busAnswers (s : State) : Bool :=
  s.writeAnswers.all Option.isSome && s.readAnswers.all Option.isSome

/-- `LIFECYCLE` says what the configuration check says (R49), and `MODE` is not SingleShot (R35): what every state
between two requests meets. -/
def State.held (s : State) : Bool :=
  decide (s.lifecycle = .configError ↔ (configCheck s.config).isSome) && decide (s.mode ≠ .singleShot)

/-! ### The pseudocode primitives -/

/-- How a piece of an operation goes on: to the next statement with a value, to a raised fault, or nowhere, because
the bus never answers. -/
inductive Flow (α : Type) where
  | go (a : α) (s : State)
  | raise (d : Detail) (s : State)
  | never

/-- One statement after another; a raised fault ends the operation at once (R283). -/
def Flow.bind {α β : Type} (f : Flow α) (k : α → State → Flow β) : Flow β :=
  match f with
  | .go a s => k a s
  | .raise d s => .raise d s
  | .never => .never

/-- The `on raise` clause of an operation (R283). -/
def Flow.onRaise {α : Type} (u : State → State) (f : Flow α) : Flow α :=
  match f with
  | .go a s => .go a s
  | .raise d s => .raise d (u s)
  | .never => .never

/-- Whether the operation came to its end. -/
def Flow.ends {α : Type} (f : Flow α) : Bool :=
  match f with
  | .go _ _ => true
  | .raise _ _ => true
  | .never => false

/-- `Emit(e)` (R300). -/
def State.emit (e : SinkEvent) (s : State) : State := s.append [.sink e]

/-- `Settle(us)` (R76). -/
def State.settle (us : Nat) (s : State) : State := s.append [.bus (.settle us)]

/-- The log entry of a write of `v` answered `ans` (R74). -/
def writeEvent (cfg : Config) (v : CommandWord) (ans : WriteAnswer) : LogEvent :=
  .bus (.write (busAddr cfg) (highByte v) (lowByte v) ans)

/-- `BusWrite(v)` (R74), with the after_write event of an acknowledged write (R301). -/
def busWrite (v : CommandWord) (s : State) : Flow Unit :=
  match s.nextWriteAnswer with
  | none => .never
  | some (.err e) => .raise (.transport e) (s.consumeWrite.append [writeEvent s.config v (.err e)])
  | some .ack => .go () (s.consumeWrite.append [writeEvent s.config v .ack, .sink (.writeDone v)])

/-- The log entry of a read of n bytes answered `ans` (R75). -/
def readEvent (cfg : Config) (n : Nat) (ans : ReadAnswer) : LogEvent := .bus (.read (busAddr cfg) n ans)

/-- `BusRead(n)` (R75): an error or a wrong number of bytes is TransportError. -/
def busRead (n : Nat) (s : State) : Flow (List Byte) :=
  match s.nextReadAnswer with
  | none => .never
  | some (.err e) => .raise (.transport e) (s.consumeRead.append [readEvent s.config n (.err e)])
  | some (.data bs) =>
    if bs.length ≠ n then .raise (.transport .io) (s.consumeRead.append [readEvent s.config n (.data bs)])
    else .go bs ((s.consumeRead.append [readEvent s.config n (.data bs)]).fillFrame bs)

/-- The Fault event of a raise or a report (R283, R284). -/
def faultEvent (op : OpCode) (d : Detail) : LogEvent := .sink (.fault (detailCode d) d (.request op))

/-- `report ProtocolFault(w)` for each word of a list, in order (R284). -/
def State.report (op : OpCode) (ws : List WordName) (s : State) : State :=
  s.append (ws.map (fun w => faultEvent op (.protocol w)))

/-- What an operation responds with: its payload, and the words it reported on the way (R282). -/
structure Answer where
  payload : Payload
  reported : List WordName
  deriving DecidableEq, Repr

/-- The response record of `respond` (R282). -/
def responseOf (a : Answer) : Response where
  code := if a.reported = [] then .ok else .protocolFault
  detail := a.reported.head?.map Detail.protocol
  payload := a.payload

/-- TAKING A FAULT: the response of `raise F(d)` after its sink event (R283). Nothing is saved and control goes
nowhere (R290); the `on raise` clause has already run. -/
def State.takeFault (op : OpCode) (d : Detail) (s : State) : State :=
  (s.append [faultEvent op d]).present { code := detailCode d, detail := some d, payload := .empty }

/-- The detail `configCheck(CONFIG)` gives (R281). The default is never read: a state in CONFIG_ERROR whose check
passes is never held, and no operation runs in it. -/
def configDetail (cfg : Config) : ConfigDetail := (configCheck cfg).getD .busUnavailable

/-- `admit(REQ)` (R281), for a request with this `OP` whose `legal(REQ)` is `bad`. -/
def admitRequest (op : OpCode) (bad : Option ParamDetail) (s : State) : Flow Unit :=
  if s.lifecycle = .configError then .raise (.configuration (configDetail s.config)) s
  else
    match bad with
    | some d => .raise (.invalidParameter d) s
    | none => if s.lifecycle = .closed ∧ op ≠ 0x11 then .raise (.usage .closed) s else .go () s

/-- The state in which an operation ends: respond (R282) or take the fault (R283). -/
def Flow.final (op : OpCode) (f : Flow Answer) (s : State) : State :=
  match f with
  | .go a t => t.present (responseOf a)
  | .raise d t => t.takeFault op d
  | .never => s

/-- The end of an operation that began in `s` and went `f`. A bus that answers every transaction lets every operation
end, so the first half of the test implies the second; it is there so that the outcome can be read off without
evaluating free answers. -/
def closeOperation (op : OpCode) (s : State) (f : Flow Answer) : Outcome :=
  if s.held = false then .refused .stateNeverHeld
  else if s.busAnswers || f.ends then .next (f.final op s)
  else .fault .busNeverAnswers

/-- An operation: admission, then its own statements (R281). -/
def operation (op : OpCode) (s : State) (body : State → Flow Answer) : Outcome :=
  closeOperation op s ((admitRequest op none s).bind (fun _ t => body t))

/-- A request whose word is illegal: admission refuses it (R109, R281, R285). -/
def rejectRequest (op : OpCode) (d : ParamDetail) (s : State) : Outcome :=
  closeOperation op s ((admitRequest op (some d) s).bind (fun _ t => .go ⟨.empty, []⟩ t))

/-! ### Shared bodies -/

/-- One command and its settle delay (R202). -/
def command (key : CtKey) (us : Nat) (s : State) : Flow Unit :=
  (busWrite (commandWord s.config key) s).bind (fun _ t => .go () (t.settle us))

/-- One command, its settle delay and a plain response (R207, R244 to R246). -/
def commandOnly (key : CtKey) (s : State) : Flow Answer :=
  (command key s.config.tCmdSettleUs s).bind (fun _ t => .go ⟨.empty, []⟩ t)

/-- The stop of R209, which SOFT_RESET shares (R240): nothing when `MODE` is Idle. -/
def stopSampling (s : State) : Flow Unit :=
  if s.mode = .idle then .go () s
  else (command .stop s.config.tCmdSettleUs s).bind (fun _ t => .go () (t.setMode .idle))

/-- A received measurement frame: decoded, and kept as `LAST_READING` (R204, R206). -/
def keepReading (bs : List Byte) (s : State) : State :=
  ((s.checksum [byteAt bs 0, byteAt bs 1]).checksum [byteAt bs 3, byteAt bs 4]).setLastReading
    (decodeFrame s.config.numerics bs)

/-- The reports and the response of a decoded Reading (R174, R204, R206). -/
def answerReading (op : OpCode) (r : Reading) (s : State) : Flow Answer :=
  .go ⟨.reading r, readingFaults r⟩ (s.report op (readingFaults r))

/-- The status read that STATUS and CHECK_STATUS share, with its report (R241, R242). -/
def readStatus (op : OpCode) (s : State) : Flow StatusRegister :=
  (command .status s.config.tCmdSettleUs s).bind fun _ t =>
    (busRead 3 t).bind fun bs u =>
      let r := decodeStatus u.config.statusBitOrder (byteAt bs 0) (byteAt bs 1) (byteAt bs 2)
      .go r ((u.checksum [byteAt bs 0, byteAt bs 1]).report op (statusFaults r))

/-! ### Reset -/

/-- `reset` (R320) with the inputs then on `CFG`: no bus transaction (R321), no response pending (R49). -/
def takeReset (cfg : Config) (s : State) : State :=
  let t := ({ s with config := cfg, mode := .idle, lastReading := none, rsp := none, reqReady := true }).append
    [.bus .resetMark]
  match configCheck cfg with
  | none => (t.setLifecycle .opened).emit (.resetDone .opened)
  | some d =>
    ((t.setLifecycle .configError).emit (.resetDone .configError)).emit
      (.fault .configurationError (.configuration d) .reset)

end Sys2Proof.Machine
end

