-- ==== Sys2Proof/Machine/ChecksumEngine.lean ====
section
/-! DEFINITION. The Checksum Engine's requests CRC8 and VALIDATE (40_checksum.md). -/

namespace Sys2Proof.Machine

/-- CRC8 (R144). -/
def execCrc8 (d0 d1 : Byte) (s : State) : Outcome :=
  operation 0x01 s fun t => .go ⟨.crc (crc8 [d0, d1]), []⟩ (t.checksum [d0, d1])

/-- VALIDATE (R145): a mismatch is a result, reported nowhere. -/
def execValidate (d0 d1 d2 : Byte) (s : State) : Outcome :=
  operation 0x02 s fun t => .go ⟨.matched (checkWord d0 d1 d2), []⟩ (t.checksum [d0, d1])

end Sys2Proof.Machine
end

