-- ==== Sys2Proof/Machine/DeviceControl.lean ====
section
/-! DEFINITION. The device-control operations (43_device_control.md). -/

namespace Sys2Proof.Machine

/-- SOFT_RESET (R240): the stop when `MODE` is not Idle, then the reset command. -/
def execSoftReset (s : State) : Outcome :=
  operation 0x0A s fun t => (stopSampling t).bind fun _ u => commandOnly .softReset u

/-- STATUS (R241). -/
def execStatus (s : State) : Outcome :=
  operation 0x0B s fun t =>
    (readStatus 0x0B t).bind fun r u => .go ⟨.status r, statusFaults r⟩ u

/-- CHECK_STATUS (R242). -/
def execCheckStatus (s : State) : Outcome :=
  operation 0x0C s fun t =>
    (readStatus 0x0C t).bind fun r u =>
      .go ⟨.check r (deviations u.config r.flags), statusFaults r⟩
        (u.append ((warnings r.flags (deviations u.config r.flags)).map .sink))

/-- SERIAL (R243). -/
def execSerial (s : State) : Outcome :=
  operation 0x0D s fun t =>
    (command .serialNumber t.config.tCmdSettleUs t).bind fun _ u =>
      (busRead 6 u).bind fun bs v =>
        .go ⟨.serial (serialOf bs).sn (serialOf bs).d0 (serialOf bs).d1, serialFaults (serialOf bs)⟩
          (((v.checksum [byteAt bs 0, byteAt bs 1]).checksum [byteAt bs 3, byteAt bs 4]).report 0x0D
            (serialFaults (serialOf bs)))

/-- HEATER_EN (R244). -/
def execHeaterEn (s : State) : Outcome :=
  operation 0x0E s fun t => commandOnly .heaterEnable t

/-- HEATER_DIS (R245). -/
def execHeaterDis (s : State) : Outcome :=
  operation 0x0F s fun t => commandOnly .heaterDisable t

/-- CLEAR_STATUS (R246). -/
def execClearStatus (s : State) : Outcome :=
  operation 0x10 s fun t => commandOnly .clearStatus t

/-- CLOSE (R247): no bus transaction; admitted when `LIFECYCLE` is CLOSED already. -/
def execClose (s : State) : Outcome :=
  operation 0x11 s fun t => .go ⟨.empty, []⟩ (t.setLifecycle .closed)

end Sys2Proof.Machine
end

