-- ==== Sys2Proof/Machine/FrameDecode.lean ====
section
/-! DEFINITION. The frame-decode request DECODE (41_frame_decode.md). -/

namespace Sys2Proof.Machine

/-- DECODE (R174): the decoder alone; `LAST_READING` is not written. -/
def execDecode (d0 d1 d2 d3 d4 d5 : Byte) (s : State) : Outcome :=
  operation 0x03 s fun t =>
    answerReading 0x03 (decodeFrame t.config.numerics [d0, d1, d2, d3, d4, d5])
      ((t.checksum [d0, d1]).checksum [d3, d4])

end Sys2Proof.Machine
end

