-- ==== Sys2Proof/Machine/Measurement.lean ====
section
/-! DEFINITION. The measurement and mode operations (42_measurement.md). -/

namespace Sys2Proof.Machine

/-- The statements of SINGLE_SHOT for a legal repeatability (R204). -/
def singleShotBody (rep : Rep) (s : State) : Flow Answer :=
  if s.mode ≠ .idle then .raise (.usage .modeConflict) s
  else
    Flow.onRaise (State.setMode .idle)
      ((command (.singleShot rep) (settleFor rep) (s.setMode .singleShot)).bind fun _ t =>
        (busRead 6 t).bind fun bs u =>
          answerReading 0x04 (decodeFrame u.config.numerics bs) ((keepReading bs u).setMode .idle))

/-- SINGLE_SHOT (R204). -/
def execSingleShot (rep : BitVec 2) (s : State) : Outcome :=
  match repOfCode rep with
  | none => rejectRequest 0x04 .badRep s
  | some p => operation 0x04 s (singleShotBody p)

/-- The statements of START_PERIODIC for a legal rate and repeatability (R205). -/
def startPeriodicBody (rate : Rate) (rep : Rep) (s : State) : Flow Answer :=
  if s.mode ≠ .idle then .raise (.usage .modeConflict) s
  else
    (command (.periodic rate rep) modeEntrySettle s).bind fun _ t =>
      .go ⟨.empty, []⟩ (t.setMode (.periodic rate))

/-- START_PERIODIC (R205); BAD_RATE is checked before BAD_REP (R110). -/
def execStartPeriodic (rate : BitVec 3) (rep : BitVec 2) (s : State) : Outcome :=
  match rateOfCode rate, repOfCode rep with
  | none, _ => rejectRequest 0x05 .badRate s
  | some _, none => rejectRequest 0x05 .badRep s
  | some r, some p => operation 0x05 s (startPeriodicBody r p)

/-- READ_DATA (R206). -/
def execReadData (s : State) : Outcome :=
  operation 0x06 s fun t =>
    if t.mode.sampling = false then .raise (.usage .modeConflict) t
    else
      (busRead 6 t).bind fun bs u =>
        answerReading 0x06 (decodeFrame u.config.numerics bs) (keepReading bs u)

/-- FETCH (R207). -/
def execFetch (s : State) : Outcome :=
  operation 0x07 s fun t =>
    if t.mode.sampling = false then .raise (.usage .modeConflict) t
    else commandOnly .fetch t

/-- START_ART (R208). -/
def execStartArt (s : State) : Outcome :=
  operation 0x08 s fun t =>
    if t.mode ≠ .idle then .raise (.usage .modeConflict) t
    else
      (command .acceleratedResponse modeEntrySettle t).bind fun _ u =>
        .go ⟨.empty, []⟩ (u.setMode .acceleratedResponse)

/-- STOP (R209). -/
def execStop (s : State) : Outcome :=
  operation 0x09 s fun t => (stopSampling t).bind fun _ u => .go ⟨.empty, []⟩ u

end Sys2Proof.Machine
end

