-- ==== Sys2Proof/Machine/Dispatch.lean ====
section
/-! DEFINITION. The one dispatch from an instruction to its meaning. -/

namespace Sys2Proof.Machine

/-- The meaning of an accepted request's instruction. -/
def exec (i : Instr) (s : State) : Host.Outcome State Fault Refusal :=
  match i with
  | .crc8 d0 d1 => Sys2Proof.Machine.execCrc8 d0 d1 s
  | .validate d0 d1 d2 => Sys2Proof.Machine.execValidate d0 d1 d2 s
  | .decode d0 d1 d2 d3 d4 d5 => Sys2Proof.Machine.execDecode d0 d1 d2 d3 d4 d5 s
  | .singleShot rep => Sys2Proof.Machine.execSingleShot rep s
  | .startPeriodic rate rep => Sys2Proof.Machine.execStartPeriodic rate rep s
  | .readData => Sys2Proof.Machine.execReadData s
  | .fetch => Sys2Proof.Machine.execFetch s
  | .startArt => Sys2Proof.Machine.execStartArt s
  | .stop => Sys2Proof.Machine.execStop s
  | .softReset => Sys2Proof.Machine.execSoftReset s
  | .status => Sys2Proof.Machine.execStatus s
  | .checkStatus => Sys2Proof.Machine.execCheckStatus s
  | .serial => Sys2Proof.Machine.execSerial s
  | .heaterEn => Sys2Proof.Machine.execHeaterEn s
  | .heaterDis => Sys2Proof.Machine.execHeaterDis s
  | .clearStatus => Sys2Proof.Machine.execClearStatus s
  | .close => Sys2Proof.Machine.execClose s

end Sys2Proof.Machine
end

