-- ==== Sys2Proof/Machine/Serve.lean ====
section
/-! DEFINITION. Taking one move of the host: a request word is accepted, decoded and run, or refused by admission; a
reset is taken between requests only (R47, R48, R320, R322). -/

namespace Sys2Proof.Machine

/-- What is around an operation: `CRC_R` and `FRAME` are unspecified once it has ended (R42, R43). -/
def betweenOperations (o : Outcome) : Outcome :=
  match o with
  | .next t => .next t.leaveHidden
  | .fault f => .fault f
  | .refused r => .refused r

/-- An accepted request word: its instruction, or InvalidParameter for a word that selects none (R109). -/
def runRequest (w : Request) (s : State) : Outcome :=
  match decodeRequest w with
  | .instr i => exec i s
  | .bad d => rejectRequest (opField w) d s

/-- One move of the host. With none to take the block waits, as a request offered while `REQ_READY` is low does
(R47; assumption 5). -/
def takeMove (s : State) : Outcome :=
  match s.inputs with
  | [] => .next s
  | .request w :: rest =>
    if s.reqReady then betweenOperations (runRequest w (s.accept rest)) else .next s
  | .reset cfg :: rest =>
    if s.reqReady then betweenOperations (.next (takeReset cfg { s with inputs := rest }))
    else .refused .resetDuringRequest

/-- Offers a request on `REQ`, with `REQ_READY` high, ahead of every other move of the host. -/
def State.offer (w : Request) (s : State) : State :=
  { s with inputs := .request w :: s.inputs, reqReady := true }

end Sys2Proof.Machine
end

