-- ==== Sys2Proof/Machine/Step.lean ====
section
/-! DEFINITION. One step of the machine, and how the host's checks place an instruction where the next step takes
it. -/

namespace Sys2Proof.Machine

/-- One step: the block takes the next move of the host, and a request runs as one atomic step (R15, R31). -/
def step (s : State) : Host.Outcome State Fault Refusal := takeMove s

/-- `s` with the request word `w` offered on `REQ`, so that the next step accepts and runs it. -/
def State.withFetchWord (s : State) (nbits w : Nat) : State :=
  s.offer (BitVec.ofNat 64 (w % 2 ^ nbits))

end Sys2Proof.Machine
end

