-- ==== Sys2Proof/Safety.lean ====
section
/-! DEFINITION. What counts as a safe state and a safe history, in the terms claims use. -/

namespace Sys2Proof.Machine

/-- A Reading's values are in the ranges of R40, are the conversions of its raw codes (R163, R165), and its tag is
the two words' tags together (R169). -/
abbrev Reading.Ok (r : Reading) : Prop :=
  r.tC100 = temperatureC100 r.tRaw ∧ -4500 ≤ r.tC100 ∧ r.tC100 ≤ 13000 ∧
  r.rhM = humidityMilli r.rhRaw ∧ (r.rhM = 1 ∨ (10 ∣ r.rhM ∧ 10 ≤ r.rhM ∧ r.rhM ≤ 100000)) ∧
  r.deg = (r.tDeg || r.rhDeg)

/-- A response has a detail exactly when its code is not OK, the detail is of the code's class, and a raised fault
carries no payload (R44, R280). -/
abbrev Response.Ok (r : Response) : Prop :=
  (r.code = .ok → r.detail = none) ∧
  (r.code ≠ .ok → r.detail.map detailCode = some r.code) ∧
  (r.code ≠ .ok → r.code ≠ .protocolFault → r.payload = .empty)

/-- Reading `BUS_LOG` in order: whether an acknowledged Write still waits for its Settle. `none` is a Write or a Read
that came before that Settle (R325; for acknowledged writes, assumption 6). -/
def settleScan (waiting : Option Bool) (e : BusEvent) : Option Bool :=
  match waiting, e with
  | none, _ => none
  | some w, .write _ _ _ ans => if w then none else some (ans == .ack)
  | some w, .read _ _ _ => if w then none else some false
  | some _, .settle _ => some false
  | some w, .resetMark => some w

/-- Every acknowledged Write of a bus log is followed by a Settle before the next Write or Read, the last one too
(R325). -/
def Settled (es : List BusEvent) : Prop := es.foldl settleScan (some false) = some false

/-- An open block between two requests (R33): `LIFECYCLE` is OPEN and the state is one that is held. -/
abbrev State.Open (s : State) : Prop := s.held = true ∧ s.lifecycle = .opened

/-- `s` with these events appended to its histories and this response presented; every other element of `s` is
unchanged. -/
def State.answers (es : List LogEvent) (r : Response) (s : State) : State :=
  { s with log := s.log ++ es, rsp := some r, rspLog := s.rspLog ++ [r], reqReady := true }

/-- What an acknowledged command leaves in the histories: the Write, its after_write event and its Settle (R74, R76,
R301). -/
def commandEvents (cfg : Config) (key : CtKey) (us : Nat) : List LogEvent :=
  [.bus (.write (busAddr cfg) (highByte (commandWord cfg key)) (lowByte (commandWord cfg key)) .ack),
   .sink (.writeDone (commandWord cfg key)), .bus (.settle us)]

/-- What a command the bus answers with an error leaves in the histories (R74). -/
def failedCommand (cfg : Config) (key : CtKey) (e : BusError) : List LogEvent :=
  [.bus (.write (busAddr cfg) (highByte (commandWord cfg key)) (lowByte (commandWord cfg key)) (.err e))]

/-- What a read of n bytes answered `ans` leaves in the histories (R75). -/
def readEvents (cfg : Config) (n : Nat) (ans : ReadAnswer) : List LogEvent :=
  [.bus (.read (busAddr cfg) n ans)]

/-- The Fault events of reported words, in order (R284). -/
def reportEvents (op : OpCode) (ws : List WordName) : List LogEvent :=
  ws.map (fun w => .sink (.fault .protocolFault (.protocol w) (.request op)))

/-- The response of an operation that reported these words: the first is its detail (R282). -/
def reportedResponse (ws : List WordName) (p : Payload) : Response :=
  match ws with
  | [] => ⟨.ok, none, p⟩
  | w :: _ => ⟨.protocolFault, some (.protocol w), p⟩

/-- `s` after the request with this `OP` raised the fault `d`, having logged `es` before (R283). -/
def State.faults (op : OpCode) (d : Detail) (es : List LogEvent) (s : State) : State :=
  s.answers (es ++ [.sink (.fault (detailCode d) d (.request op))]) ⟨detailCode d, some d, .empty⟩

/-- A bus transaction of a log: what R78 counts. -/
def BusEvent.isWrite : BusEvent → Bool
  | .write _ _ _ _ => true
  | .settle _ | .read _ _ _ | .resetMark => false

/-- A read of a bus log. -/
def BusEvent.isRead : BusEvent → Bool
  | .read _ _ _ => true
  | .settle _ | .write _ _ _ _ | .resetMark => false

/-- What holds of the machine between two requests. -/
structure State.Inv (s : State) : Prop where
  /-- R33, R35, R49: `LIFECYCLE` agrees with the configuration check, `MODE` is not SingleShot. -/
  held : s.held = true
  /-- R47: `REQ_READY` is high. -/
  ready : s.reqReady = true
  /-- R281: nothing runs in CONFIG_ERROR, so `MODE` and `LAST_READING` keep their reset values. -/
  configError : s.lifecycle = .configError → s.mode = .idle ∧ s.lastReading = none
  /-- R40: `LAST_READING` is a Reading. -/
  reading : ∀ r, s.lastReading = some r → r.Ok
  /-- R44: every response presented is one. -/
  responses : ∀ r ∈ s.rspLog, r.Ok
  /-- R47: the response port shows the last response, or none. -/
  port : s.rsp = none ∨ s.rsp = s.rspLog.getLast?
  /-- R325. -/
  settled : Settled s.busLog

end Sys2Proof.Machine
end

