-- ==== Sys2Proof/Certificates/Slice0/Obligations.lean ====
section
/-! DEFINITION. The statements about the block, for the provers. Each formalises rules of the spec, named in its
docstring; where one rests on the model's own choice it names the assumption. -/

open Sys2Proof Sys2Proof.Machine

/-! ### Encoding -/

/-- R101, R106, R108, R112: decoding the word of an instruction gives the instruction back, every operand at every
value its field has. -/
def Obligations.DecodeOfEncode : Prop :=
  ∀ i : Instr, decodeRequest (encode i) = .instr i

/-- R107, R112, D5: the encoding is one-to-one; no other word decodes to an instruction than its encoding. -/
def Obligations.EncodeOfDecode : Prop :=
  ∀ (w : Request) (i : Instr), decodeRequest w = .instr i → encode i = w

/-- R110: `legal` is Bad(BAD_OP) or Bad(UNUSED_FIELD) exactly where the decoder refuses by that name, and on a word
that decodes it is the check of the operand codes, BAD_RATE before BAD_REP. -/
def Obligations.LegalIsDecodeThenOperandCodes : Prop :=
  ∀ w : Request,
    match decodeRequest w with
    | .bad d => (d = .badOp ∨ d = .unusedField) ∧ legal w = some d
    | .instr (.singleShot rep) => legal w = if rep = 3 then some .badRep else none
    | .instr (.startPeriodic rate rep) =>
      legal w = if 4 < rate.toNat then some .badRate else if rep = 3 then some .badRep else none
    | .instr _ => legal w = none

/-- R108: a row's match value is `OP << 59`; a word selects the operation of a row exactly when `w & mask = match`; a
word with that `OP` which fails the test is refused as UNUSED_FIELD. -/
def Obligations.WordSelectsByMaskAndMatch : Prop :=
  ∀ r ∈ opRows, r.fixed = r.op.zeroExtend 64 <<< 59 ∧ ∀ w : Request,
    ((∃ i : Instr, decodeRequest w = .instr i ∧ i.opCode = r.op) ↔ w &&& r.mask = r.fixed) ∧
    (opField w = r.op → w &&& r.mask ≠ r.fixed → decodeRequest w = .bad .unusedField)

/-- R108, R112: words written out from the spec's own examples (R112, V2, V5, V8). -/
def Obligations.SpecWordsDecode : Prop :=
  decodeRequest 0x0800BEEF00000000 = .instr (.crc8 0xBE 0xEF) ∧
  decodeRequest 0x10000000AC000000 = .instr (.validate 0x00 0x00 0xAC) ∧
  decodeRequest 0x18006666938000A2 = .instr (.decode 0x66 0x66 0x93 0x80 0x00 0xA2) ∧
  decodeRequest 0x2080000000000000 = .instr (.singleShot 2) ∧
  decodeRequest 0x2940000000000000 = .instr (.startPeriodic 1 1) ∧
  decodeRequest 0x2C00000000000000 = .instr (.startPeriodic 4 0) ∧
  decodeRequest 0x8800000000000000 = .instr .close ∧
  decodeRequest 0x8800000000000001 = .bad .unusedField ∧
  decodeRequest 0x9000000000000000 = .bad .badOp

/-- R285, R109: InvalidParameter is raised exactly when `legal` is Bad(d), with that detail: an illegal word attempts no
bus transaction and changes nothing but the sink's event and the response, and no legal word ends so. -/
def Obligations.IllegalWordsOnlyReport : Prop :=
  ∀ (w : Request) (d : ParamDetail) (s : State), s.held = true → s.lifecycle ≠ .configError →
    (legal w = some d → runRequest w s = .next (s.faults (opField w) (.invalidParameter d) [])) ∧
    (∀ t, runRequest w s = .next t → t.rsp.map Response.detail = some (some (.invalidParameter d)) →
      legal w = some d)

/-! ### The checksum -/

/-- R140, R142: the checksum runs over both bytes; two words with the same checksum differ in no byte or in both, so
one wrong payload byte is always detected. -/
def Obligations.ChecksumDetectsOneWrongByte : Prop :=
  ∀ a b a' b' : Byte, crc8 [a, b] = crc8 [a', b'] → (a = a' ↔ b = b')

/-- R140, R141, R142: in polynomial terms (the spec's note G1, general knowledge), with a byte's bit i as the
coefficient of X^i and the bytes in order from the top, the checksum of a list of n bytes is the remainder modulo the
generator X^8 + X^5 + X^4 + 1 of the list followed by eight zero bits, with the initial register 0xFF added to its first
byte, that is times X^(8n). For two bytes: of the word with 0xFF in its first byte XORed, times X^8. This fixes the
polynomial, the register, the loop over every byte, and that nothing is reflected and nothing XORed at the end. -/
def Obligations.ChecksumIsGeneratorRemainder : Prop :=
  let poly : Byte → Polynomial (ZMod 2) := fun b =>
    ∑ i ∈ Finset.range 8, if b.getLsbD i then Polynomial.X ^ i else 0
  let generator : Polynomial (ZMod 2) := Polynomial.X ^ 8 + Polynomial.X ^ 5 + Polynomial.X ^ 4 + 1
  let message : List Byte → Polynomial (ZMod 2) := fun bs => bs.foldl (fun p b => p * Polynomial.X ^ 8 + poly b) 0
  (∀ bs : List Byte,
    poly (crc8 bs) = (message bs * Polynomial.X ^ 8 + poly 0xFF * Polynomial.X ^ (8 * bs.length)) %ₘ generator) ∧
  ∀ a b : Byte,
    poly (crc8 [a, b]) = ((poly (a ^^^ 0xFF) * Polynomial.X ^ 8 + poly b) * Polynomial.X ^ 8) %ₘ generator

/-- R144: CRC8 answers the checksum of its two bytes and changes nothing but the hidden `CRC_R`. -/
def Obligations.Crc8Completes : Prop :=
  ∀ (d0 d1 : Byte) (s : State), s.Open →
    exec (.crc8 d0 d1) s =
      .next ({ s with crcR := crc8 [d0, d1] }.answers [] ⟨.ok, none, .crc (crc8 [d0, d1])⟩)

/-- R145, R143: VALIDATE answers whether the checksum matches; a mismatch is OK and emits nothing. -/
def Obligations.ValidateCompletes : Prop :=
  ∀ (d0 d1 d2 : Byte) (s : State), s.Open →
    exec (.validate d0 d1 d2) s =
      .next ({ s with crcR := crc8 [d0, d1] }.answers []
        ⟨.ok, none, .matched (decide (crc8 [d0, d1] = d2))⟩)

/-! ### Frame decoding and unit conversion -/

/-- R163, R164, R166: the temperature is the integer nearest to -4500 + 17500 raw / 65535, never at a half, and in
[-4500, 13000]. -/
def Obligations.TemperatureIsNearest : Prop :=
  ∀ raw : BitVec 16,
    2 * |65535 * temperatureC100 raw - (-4500 * 65535 + 17500 * (raw.toNat : Int))| < 65535 ∧
    -4500 ≤ temperatureC100 raw ∧ temperatureC100 raw ≤ 13000

/-- R165, R166: the humidity is 10 times the integer nearest to 10000 raw / 65535, never at a half, and 1 where that
integer is 0, which is exactly the codes up to 3; so it is 1 or a multiple of 10 from 10 to 100000. -/
def Obligations.HumidityIsNearestThenClamped : Prop :=
  ∀ raw : BitVec 16,
    (∃ h : Nat, 2 * |65535 * (h : Int) - 10000 * (raw.toNat : Int)| < 65535 ∧
      humidityMilli raw = if h < 1 then 1 else 10 * h) ∧
    (humidityMilli raw = 1 ↔ raw.toNat ≤ 3) ∧
    (humidityMilli raw = 1 ∨ (10 ∣ humidityMilli raw ∧ 10 ≤ humidityMilli raw ∧ humidityMilli raw ≤ 100000))

/-- R40, R163, R165, R169: every decoded Reading has its values in range, converted from its raw codes. -/
def Obligations.DecodedReadingsAreInRange : Prop :=
  ∀ (numerics : Nat) (bs : List Byte), (decodeFrame numerics bs).Ok

/-- R175: the conversions are monotonically non-decreasing in the raw code, and not strictly. -/
def Obligations.ConversionsAreMonotone : Prop :=
  (∀ a b : BitVec 16, a.toNat ≤ b.toNat →
    temperatureC100 a ≤ temperatureC100 b ∧ humidityMilli a ≤ humidityMilli b) ∧
  temperatureC100 16852 = 0 ∧ temperatureC100 16853 = 0 ∧
  ∀ a : BitVec 16, a.toNat ≤ 3 → humidityMilli a = 1

/-- R167, R168: over the reals, with the water coefficients for t ≥ 0 and the ice ones below, the dew point is one of
the two integers next to 100 dp, for every temperature and humidity the block produces and every evaluation; and no
denominator of the formula is 0 there. -/
def Obligations.DewPointIsNextToMagnus : Prop :=
  ∀ (numerics : Nat) (t : Int) (m : Nat), -4500 ≤ t → t ≤ 13000 → 1 ≤ m → m ≤ 100000 →
    let beta : ℝ := if 0 ≤ t then 17.62 else 22.46
    let lam : ℝ := if 0 ≤ t then 243.12 else 272.62
    let tc : ℝ := (t : ℝ) / 100
    let gamma : ℝ := Real.log ((m : ℝ) / 1000 / 100) + beta * tc / (lam + tc)
    let dp : ℝ := lam * gamma / (beta - gamma)
    (dewPoint numerics t m = ⌊100 * dp⌋ ∨ dewPoint numerics t m = ⌈100 * dp⌉) ∧
    lam + tc ≠ 0 ∧ 0 < beta * lam / (lam + tc) ∧ beta * lam / (lam + tc) ≤ beta - gamma

/-- R168 (V4): at 100 % the dew point is the temperature itself, exactly. -/
def Obligations.DewPointAtSaturation : Prop :=
  ∀ (numerics : Nat) (t : Int), -4500 ≤ t → t ≤ 13000 → dewPoint numerics t 100000 = t

/-- R162: the words are validated separately. A Reading's temperature tag and code depend on bytes 0 to 2 of the
frame only, its humidity tag and code on bytes 3 to 5 only; it is degraded when either word is. -/
def Obligations.FaultIsolationPerWord : Prop :=
  ∀ (numerics : Nat) (a0 a1 a2 b3 b4 b5 x0 x1 x2 x3 x4 x5 : Byte),
    let r := decodeFrame numerics [a0, a1, a2, b3, b4, b5]
    let rt := decodeFrame numerics [a0, a1, a2, x3, x4, x5]
    let rh := decodeFrame numerics [x0, x1, x2, b3, b4, b5]
    r.tDeg = decide (crc8 [a0, a1] ≠ a2) ∧ r.rhDeg = decide (crc8 [b3, b4] ≠ b5) ∧ r.deg = (r.tDeg || r.rhDeg) ∧
    (rt.tDeg = r.tDeg ∧ rt.tRaw = r.tRaw ∧ rt.tC100 = r.tC100) ∧
    (rh.rhDeg = r.rhDeg ∧ rh.rhRaw = r.rhRaw ∧ rh.rhM = r.rhM)

/-- R171: the status register holds the received word, the flags its table reads from it under each bit order, and the
checksum's tag. -/
def Obligations.StatusFlagsFollowTable : Prop :=
  ∀ (msb lsb c : Byte) (order : StatusBitOrder),
    let r := decodeStatus order msb lsb c
    r.sRaw = msb ++ lsb ∧ r.sDeg = decide (crc8 [msb, lsb] ≠ c) ∧
    ∀ k : Fin 7, r.flags.getLsbD k =
      match order with
      | .msbIsBit0 => r.sRaw.getLsbD (#v[15, 14, 11, 5, 4, 2, 0][k])
      | .lsbIsBit0 => r.sRaw.getLsbD (#v[0, 1, 4, 10, 11, 13, 15][k])

/-- R172: a flag deviates when it differs from its default, which is 0 but for reset_detected, k = 2. -/
def Obligations.DeviationsFollowDefault : Prop :=
  ∀ (cfg : Config) (flags : BitVec 7) (rd : Bool), cfg.statusDefaultRd = some rd → ∀ k : Fin 7,
    (deviations cfg flags).getLsbD k = (flags.getLsbD k != (if k.val = 2 then rd else false))

/-- R173: the serial number is b0, b1, b3, b4 from the top byte down; bytes 2 and 5 never enter it, and each tag is
its word's checksum alone. -/
def Obligations.SerialNumberAssembly : Prop :=
  ∀ b0 b1 b2 b3 b4 b5 : Byte,
    let n := serialOf [b0, b1, b2, b3, b4, b5]
    n.sn.toNat = b0.toNat * 2 ^ 24 + b1.toNat * 2 ^ 16 + b3.toNat * 2 ^ 8 + b4.toNat ∧
    n.d0 = decide (crc8 [b0, b1] ≠ b2) ∧ n.d1 = decide (crc8 [b3, b4] ≠ b5)

/-- R174: DECODE answers the Reading of its six bytes, a Fault event for each word that fails (temperature first),
and writes neither `LAST_READING` nor the bus log. -/
def Obligations.DecodeRequestCompletes : Prop :=
  ∀ (d0 d1 d2 d3 d4 d5 : Byte) (s : State), s.Open →
    let r := decodeFrame s.config.numerics [d0, d1, d2, d3, d4, d5]
    let ws : List WordName := (if crc8 [d0, d1] = d2 then [] else [.wordT]) ++ (if crc8 [d3, d4] = d5 then [] else [.wordRh])
    exec (.decode d0 d1 d2 d3 d4 d5) s =
      .next ({ s with crcR := crc8 [d3, d4] }.answers (reportEvents 0x03 ws) (reportedResponse ws (.reading r)))

/-! ### Measurement and mode operations -/

/-- R204: SINGLE_SHOT from Idle, its command acknowledged and six bytes read: the Write of the repeatability's word,
the settle of 16, 7 or 5 ms, the Read, the Reading as response and as `LAST_READING`, `MODE` Idle again. -/
def Obligations.SingleShotCompletes : Prop :=
  ∀ (s : State) (b0 b1 b2 b3 b4 b5 : Byte) (rep : BitVec 2) (p : Rep) (us : Nat), s.Open → s.mode = .idle →
    (rep, p, us) ∈ [((0 : BitVec 2), Rep.high, 16000), (1, .medium, 7000), (2, .low, 5000)] →
    s.nextWriteAnswer = some .ack → s.nextReadAnswer = some (.data [b0, b1, b2, b3, b4, b5]) →
    let bs := [b0, b1, b2, b3, b4, b5]
    let r := decodeFrame s.config.numerics bs
    exec (.singleShot rep) s =
      .next ({ s.consumeWrite.consumeRead with
          crcR := crc8 [b3, b4], frame := #v[b0, b1, b2, b3, b4, b5], lastReading := some r }.answers
        (commandEvents s.config (.singleShot p) us ++ readEvents s.config 6 (.data bs) ++
          reportEvents 0x04 (readingFaults r))
        (reportedResponse (readingFaults r) (.reading r)))

/-- R204, R75, D15: a transport error of SINGLE_SHOT leaves `MODE` Idle and `LAST_READING` as it was; a failed write
logs no Settle and no Read, a failed or wrong-length read comes after the Settle. -/
def Obligations.SingleShotTransportErrors : Prop :=
  ∀ (s : State) (rep : BitVec 2) (p : Rep), s.Open → s.mode = .idle → repOfCode rep = some p →
    (∀ e, s.nextWriteAnswer = some (.err e) →
      exec (.singleShot rep) s =
        .next (s.consumeWrite.faults 0x04 (.transport e) (failedCommand s.config (.singleShot p) e))) ∧
    (∀ a e, s.nextWriteAnswer = some .ack → s.nextReadAnswer = some a →
      (a = .err e ∨ (∃ bs : List Byte, a = .data bs ∧ bs.length ≠ 6 ∧ e = .io)) →
      exec (.singleShot rep) s =
        .next (s.consumeWrite.consumeRead.faults 0x04 (.transport e)
          (commandEvents s.config (.singleShot p) (settleFor p) ++ readEvents s.config 6 a)))

/-- R205: START_PERIODIC from Idle: an acknowledged Write, Settle(500) and `MODE` = Periodic(rate); a failed Write
leaves `MODE` Idle. -/
def Obligations.StartPeriodicCompletes : Prop :=
  ∀ (s : State) (rate : BitVec 3) (rep : BitVec 2) (f : Rate) (p : Rep), s.Open → s.mode = .idle →
    rateOfCode rate = some f → repOfCode rep = some p →
    (s.nextWriteAnswer = some .ack →
      exec (.startPeriodic rate rep) s =
        .next ({ s.consumeWrite with mode := .periodic f }.answers
          (commandEvents s.config (.periodic f p) 500) ⟨.ok, none, .empty⟩)) ∧
    (∀ e, s.nextWriteAnswer = some (.err e) →
      exec (.startPeriodic rate rep) s =
        .next (s.consumeWrite.faults 0x05 (.transport e) (failedCommand s.config (.periodic f p) e)))

/-- R208: START_ART from Idle: an acknowledged Write, Settle(500) and `MODE` = AcceleratedResponse; a failed Write
leaves `MODE` Idle. -/
def Obligations.StartArtCompletes : Prop :=
  ∀ s : State, s.Open → s.mode = .idle →
    (s.nextWriteAnswer = some .ack →
      exec .startArt s =
        .next ({ s.consumeWrite with mode := .acceleratedResponse }.answers
          (commandEvents s.config .acceleratedResponse 500) ⟨.ok, none, .empty⟩)) ∧
    (∀ e, s.nextWriteAnswer = some (.err e) →
      exec .startArt s =
        .next (s.consumeWrite.faults 0x08 (.transport e) (failedCommand s.config .acceleratedResponse e)))

/-- R206: READ_DATA while sampling: one Read of six bytes, the Reading as response and as `LAST_READING`; on a failed
or wrong-length read `LAST_READING` is unchanged. `MODE` is unchanged in both. -/
def Obligations.ReadDataCompletes : Prop :=
  ∀ s : State, s.Open → ((∃ f, s.mode = .periodic f) ∨ s.mode = .acceleratedResponse) →
    (∀ b0 b1 b2 b3 b4 b5 : Byte, s.nextReadAnswer = some (.data [b0, b1, b2, b3, b4, b5]) →
      let bs := [b0, b1, b2, b3, b4, b5]
      let r := decodeFrame s.config.numerics bs
      exec .readData s =
        .next ({ s.consumeRead with
            crcR := crc8 [b3, b4], frame := #v[b0, b1, b2, b3, b4, b5], lastReading := some r }.answers
          (readEvents s.config 6 (.data bs) ++ reportEvents 0x06 (readingFaults r))
          (reportedResponse (readingFaults r) (.reading r)))) ∧
    (∀ a e, s.nextReadAnswer = some a →
      (a = .err e ∨ (∃ bs : List Byte, a = .data bs ∧ bs.length ≠ 6 ∧ e = .io)) →
      exec .readData s =
        .next (s.consumeRead.faults 0x06 (.transport e) (readEvents s.config 6 a)))

/-- R207: FETCH while sampling: the fetch command and its settle, no read and no Reading. -/
def Obligations.FetchCompletes : Prop :=
  ∀ s : State, s.Open → ((∃ f, s.mode = .periodic f) ∨ s.mode = .acceleratedResponse) →
    (s.nextWriteAnswer = some .ack →
      exec .fetch s =
        .next (s.consumeWrite.answers (commandEvents s.config .fetch s.config.tCmdSettleUs)
          ⟨.ok, none, .empty⟩)) ∧
    (∀ e, s.nextWriteAnswer = some (.err e) →
      exec .fetch s = .next (s.consumeWrite.faults 0x07 (.transport e) (failedCommand s.config .fetch e)))

/-- R209: STOP from Idle answers OK and touches nothing; from any other mode it sends the stop command and `MODE`
becomes Idle, or stays where the write failed. -/
def Obligations.StopCompletes : Prop :=
  ∀ s : State, s.Open →
    (s.mode = .idle → exec .stop s = .next (s.answers [] ⟨.ok, none, .empty⟩)) ∧
    (s.mode ≠ .idle → s.nextWriteAnswer = some .ack →
      exec .stop s =
        .next ({ s.consumeWrite with mode := .idle }.answers
          (commandEvents s.config .stop s.config.tCmdSettleUs) ⟨.ok, none, .empty⟩)) ∧
    (∀ e, s.mode ≠ .idle → s.nextWriteAnswer = some (.err e) →
      exec .stop s = .next (s.consumeWrite.faults 0x09 (.transport e) (failedCommand s.config .stop e)))

/-! ### Device control -/

/-- R240: SOFT_RESET sends the reset command, after the stop where `MODE` is not Idle; `MODE` is Idle once the stop
succeeded, also where the reset write then fails; a failed stop leaves `MODE` and sends no reset. -/
def Obligations.SoftResetCompletes : Prop :=
  ∀ s : State, s.Open →
    let us := s.config.tCmdSettleUs
    let stopped := commandEvents s.config .stop us
    (s.mode = .idle → s.nextWriteAnswer = some .ack →
      exec .softReset s =
        .next (s.consumeWrite.answers (commandEvents s.config .softReset us) ⟨.ok, none, .empty⟩)) ∧
    (s.mode ≠ .idle → s.nextWriteAnswer = some .ack → s.consumeWrite.nextWriteAnswer = some .ack →
      exec .softReset s =
        .next ({ s.consumeWrite.consumeWrite with mode := .idle }.answers
          (stopped ++ commandEvents s.config .softReset us) ⟨.ok, none, .empty⟩)) ∧
    (∀ e, s.mode ≠ .idle → s.nextWriteAnswer = some (.err e) →
      exec .softReset s = .next (s.consumeWrite.faults 0x0A (.transport e) (failedCommand s.config .stop e))) ∧
    (∀ e, s.mode ≠ .idle → s.nextWriteAnswer = some .ack → s.consumeWrite.nextWriteAnswer = some (.err e) →
      exec .softReset s =
        .next ({ s.consumeWrite.consumeWrite with mode := .idle }.faults 0x0A (.transport e)
          (stopped ++ failedCommand s.config .softReset e))) ∧
    (∀ e, s.mode = .idle → s.nextWriteAnswer = some (.err e) →
      exec .softReset s =
        .next (s.consumeWrite.faults 0x0A (.transport e) (failedCommand s.config .softReset e)))

/-- R241: STATUS sends the status command, settles, reads three bytes and answers the decoded register; a failed
checksum is reported and the register still returned. No block state but the hidden elements changes. -/
def Obligations.StatusCompletes : Prop :=
  ∀ (s : State) (b0 b1 b2 : Byte), s.Open →
    s.nextWriteAnswer = some .ack → s.nextReadAnswer = some (.data [b0, b1, b2]) →
    let r := decodeStatus s.config.statusBitOrder b0 b1 b2
    let ws : List WordName := if crc8 [b0, b1] = b2 then [] else [.wordStatus]
    exec .status s =
      .next ({ s.consumeWrite.consumeRead with
          crcR := crc8 [b0, b1], frame := #v[b0, b1, b2, s.frame[3], s.frame[4], s.frame[5]] }.answers
        (commandEvents s.config .status s.config.tCmdSettleUs ++
          readEvents s.config 3 (.data [b0, b1, b2]) ++ reportEvents 0x0B ws)
        (reportedResponse ws (.status r)))

/-- R242: CHECK_STATUS is STATUS with the deviations in its answer and one Warning for each, in flag order, after the
Fault event of a failed checksum. -/
def Obligations.CheckStatusCompletes : Prop :=
  ∀ (s : State) (b0 b1 b2 : Byte), s.Open →
    s.nextWriteAnswer = some .ack → s.nextReadAnswer = some (.data [b0, b1, b2]) →
    let r := decodeStatus s.config.statusBitOrder b0 b1 b2
    let dev := deviations s.config r.flags
    let ws : List WordName := if crc8 [b0, b1] = b2 then [] else [.wordStatus]
    let warned := ([0, 1, 2, 3, 4, 5, 6].filter (fun k => dev.getLsbD k)).map
      (fun k => LogEvent.sink (.warning k (r.flags.getLsbD k)))
    exec .checkStatus s =
      .next ({ s.consumeWrite.consumeRead with
          crcR := crc8 [b0, b1], frame := #v[b0, b1, b2, s.frame[3], s.frame[4], s.frame[5]] }.answers
        (commandEvents s.config .status s.config.tCmdSettleUs ++
          readEvents s.config 3 (.data [b0, b1, b2]) ++ reportEvents 0x0C ws ++ warned)
        (reportedResponse ws (.check r dev)))

/-- R243: SERIAL sends its command, settles, reads six bytes and answers the number with the two words' tags; each
word that fails is reported. -/
def Obligations.SerialCompletes : Prop :=
  ∀ (s : State) (b0 b1 b2 b3 b4 b5 : Byte), s.Open →
    s.nextWriteAnswer = some .ack → s.nextReadAnswer = some (.data [b0, b1, b2, b3, b4, b5]) →
    let bs := [b0, b1, b2, b3, b4, b5]
    let n := serialOf bs
    let ws : List WordName := (if crc8 [b0, b1] = b2 then [] else [.wordSn0]) ++ (if crc8 [b3, b4] = b5 then [] else [.wordSn1])
    exec .serial s =
      .next ({ s.consumeWrite.consumeRead with
          crcR := crc8 [b3, b4], frame := #v[b0, b1, b2, b3, b4, b5] }.answers
        (commandEvents s.config .serialNumber s.config.tCmdSettleUs ++
          readEvents s.config 6 (.data bs) ++ reportEvents 0x0D ws)
        (reportedResponse ws (.serial n.sn n.d0 n.d1)))

/-- R241, R242, R243, R75: a transport error of STATUS, CHECK_STATUS or SERIAL ends the operation at its transaction: a
failed command logs no Settle and no Read, a failed or wrong-length read comes after the Settle. Nothing else of the
block changes. -/
def Obligations.DeviceReadTransportErrors : Prop :=
  ∀ (s : State) (i : Instr) (key : CtKey) (n : Nat), s.Open →
    (i, key, n) ∈ [(Instr.status, CtKey.status, 3), (.checkStatus, .status, 3), (.serial, .serialNumber, 6)] →
    (∀ e, s.nextWriteAnswer = some (.err e) →
      exec i s = .next (s.consumeWrite.faults i.opCode (.transport e) (failedCommand s.config key e))) ∧
    (∀ a e, s.nextWriteAnswer = some .ack → s.nextReadAnswer = some a →
      (a = .err e ∨ (∃ bs : List Byte, a = .data bs ∧ bs.length ≠ n ∧ e = .io)) →
      exec i s =
        .next (s.consumeWrite.consumeRead.faults i.opCode (.transport e)
          (commandEvents s.config key s.config.tCmdSettleUs ++ readEvents s.config n a)))

/-- R244, R245, R246: HEATER_EN, HEATER_DIS and CLEAR_STATUS each send their one command and settle, in every mode;
nothing else of the block changes. -/
def Obligations.HeaterAndClearStatusComplete : Prop :=
  ∀ (s : State) (i : Instr) (key : CtKey), s.Open →
    (i, key) ∈ [(Instr.heaterEn, CtKey.heaterEnable), (.heaterDis, .heaterDisable), (.clearStatus, .clearStatus)] →
    (s.nextWriteAnswer = some .ack →
      exec i s =
        .next (s.consumeWrite.answers (commandEvents s.config key s.config.tCmdSettleUs) ⟨.ok, none, .empty⟩)) ∧
    (∀ e, s.nextWriteAnswer = some (.err e) →
      exec i s = .next (s.consumeWrite.faults i.opCode (.transport e) (failedCommand s.config key e)))

/-- R247: CLOSE sets `LIFECYCLE` to CLOSED, also where it is CLOSED already, and changes nothing else. -/
def Obligations.CloseCompletes : Prop :=
  ∀ s : State, s.held = true → s.lifecycle ≠ .configError →
    exec .close s = .next ({ s with lifecycle := .closed }.answers [] ⟨.ok, none, .empty⟩)

/-! ### Faults -/

/-- R201, R206, R207, R287: the mode-entry operations outside Idle, and READ_DATA and FETCH in Idle, raise
UsageFault(MODE_CONFLICT), make no bus transaction and change nothing. -/
def Obligations.ModeConflictsAreRefused : Prop :=
  ∀ (s : State) (i : Instr), s.Open → i.wellFormed = true →
    ((s.mode ≠ .idle ∧ ((∃ rep, i = .singleShot rep) ∨ (∃ rate rep, i = .startPeriodic rate rep) ∨ i = .startArt)) ∨
      (s.mode = .idle ∧ (i = .readData ∨ i = .fetch))) →
    exec i s = .next (s.faults i.opCode (.usage .modeConflict) [])

/-- R281, R287: while CLOSED every legal request but CLOSE raises UsageFault(CLOSED) and changes nothing. -/
def Obligations.ClosedRefusesAllButClose : Prop :=
  ∀ (s : State) (i : Instr), s.held = true → s.lifecycle = .closed → i.wellFormed = true → i ≠ .close →
    exec i s = .next (s.faults i.opCode (.usage .closed) [])

/-- R281, R286: in CONFIG_ERROR every request word, CLOSE and illegal words too, ends in ConfigurationError with the
detail of the configuration check, and changes nothing. -/
def Obligations.ConfigErrorRefusesEveryWord : Prop :=
  ∀ (s : State) (w : Request), s.held = true → s.lifecycle = .configError →
    ∃ d, configCheck s.config = some d ∧ runRequest w s = .next (s.faults (opField w) (.configuration d) [])

/-- R103, R104, R285, R289: an operand code that is none raises InvalidParameter, BAD_RATE before BAD_REP, also while
CLOSED and in every mode. -/
def Obligations.BadOperandCodesAreInvalid : Prop :=
  ∀ (s : State) (rate : BitVec 3) (rep : BitVec 2), s.held = true → s.lifecycle ≠ .configError →
    exec (.singleShot 3) s = .next (s.faults 0x04 (.invalidParameter .badRep) []) ∧
    (4 < rate.toNat →
      exec (.startPeriodic rate rep) s = .next (s.faults 0x05 (.invalidParameter .badRate) [])) ∧
    (rate.toNat ≤ 4 →
      exec (.startPeriodic rate 3) s = .next (s.faults 0x05 (.invalidParameter .badRep) []))

/-- R327: a bus that never answers holds the block in its operation for ever, a stuck state (the fault of assumption 9):
at the first transaction of every operation that issues one, at the reset command after SOFT_RESET's stop, and at the
read that follows an acknowledged command. -/
def Obligations.SilentBusIsStuck : Prop :=
  ∀ (s : State) (i : Instr), s.Open →
    (s.nextWriteAnswer = none →
      (i ∈ [Instr.softReset, .status, .checkStatus, .serial, .heaterEn, .heaterDis, .clearStatus] ∨
        (s.mode = .idle ∧ i ∈ [Instr.singleShot 0, .singleShot 1, .singleShot 2, .startArt]) ∨
        (s.mode = .idle ∧ ∃ rate rep, i = .startPeriodic rate rep ∧ i.wellFormed = true) ∨
        (s.mode ≠ .idle ∧ i ∈ [Instr.fetch, .stop])) →
      exec i s = .fault .busNeverAnswers) ∧
    (s.nextReadAnswer = none → s.mode ≠ .idle → exec .readData s = .fault .busNeverAnswers) ∧
    (s.nextWriteAnswer = some .ack → s.consumeWrite.nextWriteAnswer = none → s.mode ≠ .idle →
      exec .softReset s = .fault .busNeverAnswers) ∧
    (s.nextWriteAnswer = some .ack → s.nextReadAnswer = none →
      (i ∈ [Instr.status, .checkStatus, .serial] ∨
        (s.mode = .idle ∧ i ∈ [Instr.singleShot 0, .singleShot 1, .singleShot 2])) →
      exec i s = .fault .busNeverAnswers)

/-- R288, R283: TransportError(e) is raised exactly where a transaction fails with e (the bus answered it with e, or a
read had the wrong length and e is IO); that transaction is the last one of the operation, never repeated, and the
Fault event comes right after it. -/
def Obligations.TransportErrorEndsAtItsTransaction : Prop :=
  ∀ (i : Instr) (s t : State), exec i s = .next t →
    let failed (x : BusEvent) (e : BusError) : Prop :=
      (∃ addr hi lo, x = .write addr hi lo (.err e)) ∨ (∃ addr n, x = .read addr n (.err e)) ∨
        (∃ addr n bs, x = .read addr n (.data bs) ∧ bs.length ≠ n ∧ e = .io)
    ∃ es : List LogEvent, t.log = s.log ++ es ∧
      (∀ x e, .bus x ∈ es → failed x e → t.rsp.map Response.detail = some (some (.transport e))) ∧
      (∀ e, t.rsp.map Response.detail = some (some (.transport e)) →
        ∃ (before : List LogEvent) (x : BusEvent), failed x e ∧
          es = before ++ [.bus x, .sink (.fault .transportError (.transport e) (.request i.opCode))])

/-- R302: every response whose code is not OK has a Fault event with its code and detail and the request's `OP`,
emitted during the same operation. -/
def Obligations.EveryFaultIsFlagged : Prop :=
  ∀ (i : Instr) (s t : State), exec i s = .next t →
    ∃ (es : List LogEvent) (r : Response), t.log = s.log ++ es ∧ t.rsp = some r ∧
      (r.code ≠ .ok → ∃ d, r.detail = some d ∧ .sink (.fault r.code d (.request i.opCode)) ∈ es)

/-- R109, R201, R281, R287: a request that ends in CONFIGURATION_ERROR, INVALID_PARAMETER or USAGE_FAULT made no bus
transaction. -/
def Obligations.RejectedRequestsTouchNoBus : Prop :=
  ∀ (i : Instr) (s t : State) (r : Response), exec i s = .next t → t.rsp = some r →
    r.code ∈ [RspCode.configurationError, .invalidParameter, .usageFault] → t.busLog = s.busLog

/-! ### The whole machine -/

/-- R44, R47: every operation that ends presents exactly one response, well formed, and `REQ_READY` is high again. -/
def Obligations.EveryRequestGetsOneResponse : Prop :=
  ∀ (i : Instr) (s t : State), exec i s = .next t →
    ∃ r : Response, t.rsp = some r ∧ t.rspLog = s.rspLog ++ [r] ∧ r.Ok ∧ t.reqReady = true

/-- R33, R38: no operation writes `CONFIG`; only CLOSE writes `LIFECYCLE`, and it writes CLOSED. -/
def Obligations.OnlyCloseWritesLifecycle : Prop :=
  ∀ (i : Instr) (s t : State), exec i s = .next t →
    t.config = s.config ∧ (t.lifecycle = s.lifecycle ∨ (i = .close ∧ t.lifecycle = .closed))

/-- R36, R35: only SINGLE_SHOT, START_PERIODIC, START_ART, STOP, SOFT_RESET and reset write `MODE`; and after an
operation or a reset it is never SingleShot. -/
def Obligations.OnlyModeOperationsWriteMode : Prop :=
  (∀ (i : Instr) (s t : State), exec i s = .next t → t.mode ≠ .singleShot ∧
    ((∀ rep, i ≠ .singleShot rep) → (∀ rate rep, i ≠ .startPeriodic rate rep) →
      i ≠ .startArt → i ≠ .stop → i ≠ .softReset → t.mode = s.mode)) ∧
  ∀ (cfg : Config) (s : State), (takeReset cfg s).mode = .idle

/-- R200, R210: `MODE` moves only along the arrows of the state machine. Into Periodic and AcceleratedResponse it moves
from Idle only, by their own operations; out of them to Idle only, by STOP and SOFT_RESET. -/
def Obligations.ModeFollowsItsArrows : Prop :=
  ∀ (i : Instr) (s t : State), exec i s = .next t → t.mode ≠ s.mode →
    (s.mode = .idle ∧ ((∃ rate rep f, i = .startPeriodic rate rep ∧ rateOfCode rate = some f ∧ t.mode = .periodic f) ∨
      (i = .startArt ∧ t.mode = .acceleratedResponse))) ∨
    (s.mode ≠ .idle ∧ t.mode = .idle ∧ (i = .stop ∨ i = .softReset))

/-- R37: a SINGLE_SHOT or READ_DATA that completes writes the Reading it responds with to `LAST_READING`, degraded or
not; everything else, DECODE and a frame read that fails among it, leaves `LAST_READING` as it was. -/
def Obligations.OnlyFrameReadsWriteLastReading : Prop :=
  ∀ (i : Instr) (s t : State), exec i s = .next t →
    let frameRead : Prop := (∃ rep, i = .singleShot rep) ∨ i = .readData
    (∀ r, frameRead → t.rsp.map Response.payload = some (.reading r) → t.lastReading = some r) ∧
    (¬ (frameRead ∧ ∃ r, t.rsp.map Response.payload = some (.reading r)) → t.lastReading = s.lastReading)

/-- R78: an operation that responds normally issues exactly the transactions of its row of the table, writes before
reads; one that ends in a fault issues no more than that; and every read asks for its row's length. -/
def Obligations.BusTrafficStaysInItsRow : Prop :=
  ∀ (i : Instr) (s t : State), exec i s = .next t →
    let row : Nat × Nat × Nat :=
      match i with
      | .crc8 _ _ | .validate _ _ _ | .decode _ _ _ _ _ _ | .close => (0, 0, 0)
      | .singleShot _ => (1, 1, 6)
      | .startPeriodic _ _ | .startArt | .fetch | .heaterEn | .heaterDis | .clearStatus => (1, 0, 0)
      | .readData => (0, 1, 6)
      | .stop => (if s.mode = .idle then 0 else 1, 0, 0)
      | .softReset => (if s.mode = .idle then 1 else 2, 0, 0)
      | .status | .checkStatus => (1, 1, 3)
      | .serial => (1, 1, 6)
    ∃ es : List BusEvent, t.busLog = s.busLog ++ es ∧
      es.countP BusEvent.isWrite ≤ row.1 ∧ es.countP BusEvent.isRead ≤ row.2.1 ∧
      (∀ r, t.rsp = some r → r.code = .ok ∨ r.code = .protocolFault →
        es.countP BusEvent.isWrite = row.1 ∧ es.countP BusEvent.isRead = row.2.1) ∧
      es.Pairwise (fun x y => ¬ (x.isRead = true ∧ y.isWrite = true)) ∧
      ∀ a n ans, .read a n ans ∈ es → n = row.2.2

/-- R71: every bus transaction goes to `BUS_ADDR`, the configured `CT.bus_address`, which no operation changes. -/
def Obligations.EveryTransactionGoesToBusAddr : Prop :=
  ∀ (i : Instr) (s t : State) (addr : BusAddr), exec i s = .next t → s.config.ct.busAddress = some addr →
    t.config.ct.busAddress = some addr ∧
    ∃ es : List BusEvent, t.busLog = s.busLog ++ es ∧
      ∀ e ∈ es, (∀ a hi lo ans, e = .write a hi lo ans → a = addr) ∧ (∀ a n ans, e = .read a n ans → a = addr)

/-- R305: no operation depends on the histories: from the same state with another log it does the same and appends
the same events. -/
def Obligations.HistoriesAreNeverRead : Prop :=
  ∀ (i : Instr) (s t : State) (l : List LogEvent), exec i s = .next t →
    ∃ es, t.log = s.log ++ es ∧ exec i { s with log := l } = .next { t with log := l ++ es }

/-- R42, R43: no operation reads `CRC_R` or `FRAME` before writing it: with other values there, everything but those
two comes out the same. -/
def Obligations.HiddenElementsAreNeverRead : Prop :=
  ∀ (i : Instr) (s t : State) (c : Byte) (f : Vector Byte 6), exec i s = .next t →
    ∃ c' f', exec i { s with crcR := c, frame := f } = .next { t with crcR := c', frame := f' }

/-- R15, R31, R47, R109, R326: the step takes the first move of the host. A request word offered while `REQ_READY` is
high is accepted (the move is taken, `REQ_READY` falls, no response is presented: assumption 7) and run: one that decodes
to an instruction runs exactly that instruction, any other is refused by admission with the decoder's detail. After it
the hidden `CRC_R` and `FRAME` hold free values (assumption 3). A request offered while `REQ_READY` is low waits, not
dropped, and disturbs nothing; with no move to take the block waits (assumption 5). -/
def Obligations.StepRunsTheDecodedInstruction : Prop :=
  ∀ s : State,
    (∀ (w : Request) (rest : List HostMove), s.inputs = .request w :: rest → s.reqReady = true →
      let accepted : State := { s with inputs := rest, reqReady := false, rsp := none }
      (∀ i, decodeRequest w = .instr i → runRequest w accepted = exec i accepted) ∧
      (∀ d, decodeRequest w = .bad d → runRequest w accepted = rejectRequest (opField w) d accepted) ∧
      step s =
        match runRequest w accepted with
        | .next t => .next { t with
            crcR := Config.freeCrcRegister t.hiddenDrawn, frame := Config.freeFrame t.hiddenDrawn,
            hiddenDrawn := t.hiddenDrawn + 1 }
        | .fault f => .fault f
        | .refused r => .refused r) ∧
    (∀ (w : Request) (rest : List HostMove), s.inputs = .request w :: rest → s.reqReady = false →
      step s = .next s) ∧
    (s.inputs = [] → step s = .next s)

/-- R49, R320, R321: taking RESET latches CFG, leaves `MODE` Idle, no Reading, no pending response and `REQ_READY`
high, appends ResetMark and the reset's events and no bus transaction; `LIFECYCLE` is what the check says; `CRC_R` and
`FRAME` hold some value. Every other element is unchanged. -/
def Obligations.ResetLeavesItsValues : Prop :=
  ∀ (s : State) (cfg : Config) (rest : List HostMove), s.inputs = .reset cfg :: rest → s.reqReady = true →
    ∃ (c : Byte) (f : Vector Byte 6) (drawn : Nat), step s = .next { s with
      lifecycle := if (configCheck cfg).isNone then .opened else .configError
      mode := .idle
      lastReading := none
      config := cfg
      crcR := c
      frame := f
      hiddenDrawn := drawn
      rsp := none
      reqReady := true
      inputs := rest
      log := s.log ++ [.bus .resetMark] ++
        match configCheck cfg with
        | none => [.sink (.resetDone .opened)]
        | some d => [.sink (.resetDone .configError),
            .sink (.fault .configurationError (.configuration d) .reset)] }

/-- R322: a reset taken while a request is in progress has no move. -/
def Obligations.ResetDuringRequestHasNoMove : Prop :=
  ∀ (s : State) (cfg : Config) (rest : List HostMove), s.inputs = .reset cfg :: rest → s.reqReady = false →
    step s = .refused .resetDuringRequest

/-- R286: the configuration check passes exactly when BUS_INDEX is set and available, all 28 keys are present and
STATUS_DEFAULT_RD is set; otherwise its detail is the first failing item, the keys in R39's order. -/
def Obligations.ConfigCheckIsFirstFailure : Prop :=
  ∀ cfg : Config,
    (configCheck cfg = none ↔
      (∃ b, cfg.busIndex = some b ∧ b ∉ cfg.unavailableBus) ∧ (∀ k ∈ keyOrder, keyPresent cfg.ct k = true) ∧
      cfg.statusDefaultRd.isSome = true) ∧
    (configCheck cfg = some (.paramUnset .busIndex) ↔ cfg.busIndex = none) ∧
    (configCheck cfg = some .busUnavailable ↔ ∃ b, cfg.busIndex = some b ∧ b ∈ cfg.unavailableBus) ∧
    (∀ k, configCheck cfg = some (.tableEntryMissing k) ↔
      (∃ b, cfg.busIndex = some b ∧ b ∉ cfg.unavailableBus) ∧
      ∃ before after, keyOrder = before ++ k :: after ∧ keyPresent cfg.ct k = false ∧
        ∀ x ∈ before, keyPresent cfg.ct x = true) ∧
    (configCheck cfg = some (.paramUnset .statusDefaultRd) ↔
      (∃ b, cfg.busIndex = some b ∧ b ∉ cfg.unavailableBus) ∧ (∀ k ∈ keyOrder, keyPresent cfg.ct k = true) ∧
      cfg.statusDefaultRd = none) ∧
    (keyOrder = [.singleShot .high, .singleShot .medium, .singleShot .low,
      .periodic .hz05 .high, .periodic .hz05 .medium, .periodic .hz05 .low,
      .periodic .hz1 .high, .periodic .hz1 .medium, .periodic .hz1 .low,
      .periodic .hz2 .high, .periodic .hz2 .medium, .periodic .hz2 .low,
      .periodic .hz4 .high, .periodic .hz4 .medium, .periodic .hz4 .low,
      .periodic .hz10 .high, .periodic .hz10 .medium, .periodic .hz10 .low,
      .acceleratedResponse, .stop, .softReset, .status, .clearStatus, .serialNumber, .fetch,
      .heaterEnable, .heaterDisable, .busAddress]) ∧
    ∀ k : CtKey, k ∈ keyOrder

/-- R46: a step only ever appends to the histories and to the sequence of responses. -/
def Obligations.StepOnlyAppends : Prop :=
  ∀ s t : State, step s = .next t → s.log <+: t.log ∧ s.rspLog <+: t.rspLog

/-- R33, R35, R40, R44, R47, R49, R325: what holds between two requests holds after every step. -/
def Obligations.StepKeepsInvariant : Prop :=
  ∀ s t : State, s.Inv → step s = .next t → t.Inv

/-- R49, R320: the invariant holds at reset (with the example configuration, assumption 1). -/
def Obligations.ResetMeetsInvariant : Prop := State.reset.Inv

/-- R325: read as its own property of the bus history: after any step from a state that meets the invariant, between
an acknowledged Write and the next Write or Read a Settle stands. -/
def Obligations.SettleStandsBetweenTransactions : Prop :=
  ∀ s t : State, s.Inv → step s = .next t →
    ∀ (a b c : List BusEvent) (addr : BusAddr) (hi lo : Byte) (x : BusEvent),
      t.busLog = a ++ [.write addr hi lo .ack] ++ b ++ [x] ++ c → (x.isWrite = true ∨ x.isRead = true) →
      ∃ us, .settle us ∈ b
end

