-- ==== Sys2Proof/Laws/Checksum.lean ====
section
/-! SUPPORT. The checksum byte by byte and bit by bit: how the register starts, what one more byte does to it, and that
each step is linear over XOR (R140). -/

namespace Sys2Proof.Machine

/-- The register starts at 0xFF. -/
@[simp] theorem crc8_nil : crc8 [] = 0xFF := rfl

/-- One more byte goes into the register as it stands. -/
theorem crc8_concat (bs : List Byte) (b : Byte) : crc8 (bs ++ [b]) = crcByte (crc8 bs) b := by
  simp [crc8]

/-- A byte's two updates: XOR into the register, then eight steps. -/
theorem crcByte_eq (r b : Byte) : crcByte r b = Nat.repeat crcShift 8 (r ^^^ b) := rfl

/-- One step is linear over XOR. -/
theorem crcShift_xor (x y : Byte) : crcShift (x ^^^ y) = crcShift x ^^^ crcShift y := by
  have h : (x ^^^ y) <<< 1 = x <<< 1 ^^^ y <<< 1 := BitVec.shiftLeft_xor_distrib ..
  unfold crcShift
  rw [BitVec.getLsbD_xor, h]
  generalize x <<< 1 = u, y <<< 1 = v, (0x31 : Byte) = p
  cases x.getLsbD 7 <;> cases y.getLsbD 7
  · rfl
  · exact BitVec.xor_assoc ..
  · simp [BitVec.xor_assoc, BitVec.xor_comm v]
  · simp [BitVec.xor_assoc, ← BitVec.xor_assoc p v, BitVec.xor_comm p v]

/-- Any number of steps is linear over XOR. -/
theorem repeat_crcShift_xor (n : Nat) (x y : Byte) :
    Nat.repeat crcShift n (x ^^^ y) = Nat.repeat crcShift n x ^^^ Nat.repeat crcShift n y := by
  induction n with
  | zero => rfl
  | succ n ih => simp only [Nat.repeat, ih, crcShift_xor]

end Sys2Proof.Machine
end

