-- ==== Sys2Proof/Laws/Convert.lean ====
section
/-! SUPPORT. The conversions in one closed form each, for linear arithmetic (R163 to R165). -/

namespace Sys2Proof.Machine

/-- The temperature as a floor. -/
theorem temperatureC100_eq (raw : BitVec 16) :
    temperatureC100 raw = (2 * (-4500 * 65535 + 17500 * (raw.toNat : Int)) + 65535) / 131070 := by
  simp only [temperatureC100, roundQuotient]
  norm_num

/-- The rounded humidity as a floor of naturals. -/
theorem humidityCenti_eq (raw : BitVec 16) : humidityCenti raw = (20000 * raw.toNat + 65535) / 131070 := by
  simp only [humidityCenti, roundQuotient]
  norm_num
  omega

theorem humidityMilli_of_low {raw : BitVec 16} (h : raw.toNat ≤ 3) : humidityMilli raw = 1 := by
  have : humidityCenti raw < 1 := by
    rw [humidityCenti_eq]
    omega
  exact if_pos this

theorem humidityMilli_of_high {raw : BitVec 16} (h : 4 ≤ raw.toNat) :
    humidityMilli raw = 10 * ((20000 * raw.toNat + 65535) / 131070) := by
  have : ¬ humidityCenti raw < 1 := by
    rw [humidityCenti_eq]
    omega
  rw [humidityMilli, if_neg this, humidityCenti_eq]

end Sys2Proof.Machine
end

