-- ==== Sys2Proof/Laws/Decode.lean ====
section
/-! SUPPORT. The fields of a request word: a word is its fields, and each field of a packed word is what was packed
(R101 to R106). -/

namespace Sys2Proof

/-- A request word is the concatenation of its fields (R101). -/
theorem request_fields (w : Request) :
    w = opField w ++ rateField w ++ repField w ++ rsvdField w ++ dataByte w 0 ++ dataByte w 1 ++ dataByte w 2 ++
      dataByte w 3 ++ dataByte w 4 ++ dataByte w 5 := by
  apply BitVec.eq_of_getLsbD_eq
  intro i hi
  simp only [opField, rateField, repField, rsvdField, dataByte, BitVec.getLsbD_append, BitVec.getLsbD_extractLsb']
  interval_cases i <;> rfl

section
variable (op : OpCode) (rate : BitVec 3) (rep : BitVec 2) (d0 d1 d2 d3 d4 d5 : Byte)

@[simp] theorem opField_packRequest : opField (packRequest op rate rep d0 d1 d2 d3 d4 d5) = op := by
  apply BitVec.eq_of_getLsbD_eq
  intro i hi
  simp only [opField, packRequest, BitVec.getLsbD_append, BitVec.getLsbD_extractLsb']
  interval_cases i <;> rfl

@[simp] theorem rateField_packRequest : rateField (packRequest op rate rep d0 d1 d2 d3 d4 d5) = rate := by
  apply BitVec.eq_of_getLsbD_eq
  intro i hi
  simp only [rateField, packRequest, BitVec.getLsbD_append, BitVec.getLsbD_extractLsb']
  interval_cases i <;> rfl

@[simp] theorem repField_packRequest : repField (packRequest op rate rep d0 d1 d2 d3 d4 d5) = rep := by
  apply BitVec.eq_of_getLsbD_eq
  intro i hi
  simp only [repField, packRequest, BitVec.getLsbD_append, BitVec.getLsbD_extractLsb']
  interval_cases i <;> rfl

@[simp] theorem rsvdField_packRequest : rsvdField (packRequest op rate rep d0 d1 d2 d3 d4 d5) = 0 := by
  apply BitVec.eq_of_getLsbD_eq
  intro i hi
  simp only [rsvdField, packRequest, BitVec.getLsbD_append, BitVec.getLsbD_extractLsb']
  interval_cases i <;> rfl

/-- `Dk` of a packed word (R106). -/
theorem dataByte_packRequest (k : Fin 6) :
    dataByte (packRequest op rate rep d0 d1 d2 d3 d4 d5) k = #v[d0, d1, d2, d3, d4, d5][k] := by
  apply BitVec.eq_of_getLsbD_eq
  intro i hi
  simp only [dataByte, packRequest, BitVec.getLsbD_append, BitVec.getLsbD_extractLsb']
  fin_cases k <;> interval_cases i <;> rfl

end

/-- What the selection test answers. -/
theorem ifSelected_eq_instr {w fixed mask : Request} {i j : Instr} :
    ifSelected w fixed mask i = .instr j ↔ w &&& mask = fixed ∧ i = j := by
  unfold ifSelected
  split <;> simp_all

theorem ifSelected_eq_bad {w fixed mask : Request} {i : Instr} {d : ParamDetail} :
    ifSelected w fixed mask i = .bad d ↔ w &&& mask ≠ fixed ∧ d = .unusedField := by
  unfold ifSelected
  split <;> simp_all [eq_comm]

/-- The instruction of a word has the word's operation code (R108). -/
theorem opCode_of_decodeRequest {w : Request} {i : Instr} (h : decodeRequest w = .instr i) :
    i.opCode = opField w := by
  have ho : ∀ n : Nat, (opField w).toNat = n → opField w = BitVec.ofNat 5 n := by
    intro n hn
    rw [← hn]
    simp
  unfold decodeRequest at h
  split at h <;>
    first
    | (simp at h; done)
    | (obtain ⟨-, rfl⟩ := ifSelected_eq_instr.mp h
       rename_i hn
       rw [ho _ hn]
       rfl)

end Sys2Proof
end

