-- ==== Sys2Proof/Laws/DewPoint.lean ====
section
/-! SUPPORT. The rational enclosure of ln(rh / 100) that the dew point computes with holds the real logarithm, strictly
inside but at 100 %, where it is the point 0; and it is narrow (R167, R168; assumption 4). -/

namespace Sys2Proof.Machine

/-- The partial sums are Mathlib's. -/
theorem atanhSum_cast (z : Rat) (n : Nat) :
    ((atanhSum z n : Rat) : ℝ) = ∑ i ∈ Finset.range n, (z : ℝ) ^ (2 * i + 1) / (2 * i + 1) := by
  induction n with
  | zero => simp [atanhSum]
  | succ n ih => rw [atanhSum, Finset.sum_range_succ, ← ih]; push_cast; rfl

theorem atanhSum_zero (n : Nat) : atanhSum 0 n = 0 := by
  induction n <;> simp_all [atanhSum]

/-- The series encloses the logarithm strictly, away from 0. -/
theorem logRatio_encloses {z : Rat} (h0 : 0 < z) (h1 : z < 1) :
    ((logRatio z).lo : ℝ) < Real.log ((1 + z) / (1 - z)) ∧
      Real.log ((1 + z) / (1 - z)) < ((logRatio z).hi : ℝ) := by
  have h0' : (0 : ℝ) < z := by exact_mod_cast h0
  have h1' : (z : ℝ) < 1 := by exact_mod_cast h1
  have hlo := Real.sum_range_le_log_div h0'.le h1' (seriesTerms + 1)
  have hhi := Real.log_div_le_sum_range_add h0'.le h1' (seriesTerms + 1)
  rw [Finset.sum_range_succ, ← atanhSum_cast] at hlo hhi
  have hp : (0 : ℝ) < (z : ℝ) ^ (2 * seriesTerms + 1) := by positivity
  have hq : (0 : ℝ) < 1 - (z : ℝ) ^ 2 := by nlinarith
  simp only [logRatio]
  push_cast
  constructor
  · have : (0 : ℝ) < (z : ℝ) ^ (2 * seriesTerms + 1) / (2 * seriesTerms + 1) := by positivity
    linarith
  · have hlt : (z : ℝ) ^ (2 * seriesTerms + 1) / (2 * seriesTerms + 1) +
        (z : ℝ) ^ (2 * (seriesTerms + 1) + 1) / (1 - (z : ℝ) ^ 2) <
        (z : ℝ) ^ (2 * seriesTerms + 1) / (1 - (z : ℝ) ^ 2) := by
      rw [show (z : ℝ) ^ (2 * (seriesTerms + 1) + 1) = (z : ℝ) ^ (2 * seriesTerms + 1) * (z : ℝ) ^ 2 by ring]
      generalize (z : ℝ) ^ (2 * seriesTerms + 1) = p at hp ⊢
      rw [← lt_sub_iff_add_lt, ← sub_div, show p - p * (z : ℝ) ^ 2 = p * (1 - (z : ℝ) ^ 2) by ring,
        mul_div_assoc, div_self hq.ne', mul_one]
      exact div_lt_self hp (by norm_num [seriesTerms])
    linarith

/-- The enclosure is narrow up to 1/3, the largest argument in use. -/
theorem logRatio_width {z : Rat} (h0 : 0 ≤ z) (h1 : z ≤ 1 / 3) : (logRatio z).hi - (logRatio z).lo ≤ 1 / 10 ^ 22 := by
  have hp : z ^ (2 * seriesTerms + 1) ≤ (1 / 3) ^ (2 * seriesTerms + 1) := pow_le_pow_left₀ h0 h1 _
  have hq : 8 / 9 ≤ 1 - z ^ 2 := by nlinarith
  have h : z ^ (2 * seriesTerms + 1) / (1 - z ^ 2) ≤ (1 / 3) ^ (2 * seriesTerms + 1) / (8 / 9) :=
    div_le_div₀ (by positivity) hp (by norm_num) hq
  have hn : 2 * ((1 / 3 : Rat) ^ (2 * seriesTerms + 1) / (8 / 9)) ≤ 1 / 10 ^ 22 := by norm_num [seriesTerms]
  simp only [logRatio]
  linarith

/-- The halvings bring m into the upper half of its range. -/
theorem halvings_bounds {m : Nat} (h1 : 1 ≤ m) (h2 : m ≤ 100000) :
    2 ^ halvings m * m ≤ 100000 ∧ 100000 < 2 * (2 ^ halvings m * m) := by
  have hq : 100000 / m ≠ 0 := (Nat.div_pos h2 h1).ne'
  have ha : 2 ^ halvings m ≤ 100000 / m := Nat.log2_self_le hq
  have hb : 100000 / m < 2 ^ (halvings m + 1) := Nat.lt_log2_self
  constructor
  · exact (Nat.le_div_iff_mul_le h1).mp ha
  · have := (Nat.div_lt_iff_lt_mul h1).mp hb
    rw [pow_succ] at this
    linarith

theorem halvings_le {m : Nat} (h1 : 1 ≤ m) (h2 : m ≤ 100000) : halvings m ≤ 16 := by
  by_contra h
  have hp : 2 ^ 17 ≤ 2 ^ halvings m := Nat.pow_le_pow_right (by norm_num) (by omega)
  have hb := (halvings_bounds h1 h2).1
  nlinarith

/-- The argument of the series is in [0, 1/3). -/
theorem seriesArg_bounds {m : Nat} (h1 : 1 ≤ m) (h2 : m ≤ 100000) : 0 ≤ seriesArg m ∧ seriesArg m < 1 / 3 := by
  obtain ⟨ha, hb⟩ := halvings_bounds h1 h2
  have ha' : (2 : Rat) ^ halvings m * m ≤ 100000 := by exact_mod_cast ha
  have hb' : (100000 : Rat) < 2 * (2 ^ halvings m * m) := by exact_mod_cast hb
  rw [seriesArg]
  constructor
  · apply div_nonneg <;> linarith
  · rw [div_lt_iff₀ (by linarith)]
    linarith

/-- What the halvings and the argument stand for: ln(rh / 100) = -(k ln 2 + ln((1+z)/(1-z))). -/
theorem log_humidity_eq {m : Nat} (h1 : 1 ≤ m) :
    Real.log ((m : ℝ) / 1000 / 100) =
      -(halvings m * Real.log ((1 + ((1 / 3 : Rat) : ℝ)) / (1 - ((1 / 3 : Rat) : ℝ))) +
        Real.log ((1 + (seriesArg m : ℝ)) / (1 - (seriesArg m : ℝ)))) := by
  have hm : (0 : ℝ) < m := by exact_mod_cast h1
  have hx : (0 : ℝ) < 2 ^ halvings m * m := by positivity
  have hs : (100000 : ℝ) + 2 ^ halvings m * m ≠ 0 := by positivity
  have hz : (1 + (seriesArg m : ℝ)) / (1 - (seriesArg m : ℝ)) = 100000 / (2 ^ halvings m * m) := by
    rw [seriesArg]
    push_cast
    rw [show (1 : ℝ) + (100000 - 2 ^ halvings m * m) / (100000 + 2 ^ halvings m * m) =
        200000 / (100000 + 2 ^ halvings m * m) by field_simp; ring,
      show (1 : ℝ) - (100000 - 2 ^ halvings m * m) / (100000 + 2 ^ halvings m * m) =
        2 * (2 ^ halvings m * m) / (100000 + 2 ^ halvings m * m) by field_simp; ring]
    field_simp
    norm_num
  have h2' : (1 + ((1 / 3 : Rat) : ℝ)) / (1 - ((1 / 3 : Rat) : ℝ)) = 2 := by
    push_cast
    norm_num
  rw [hz, h2', ← Real.log_pow, ← Real.log_mul (by positivity) (by positivity), ← Real.log_inv]
  congr 1
  field_simp
  norm_num

theorem logHumidity_saturated : logHumidity 100000 = ⟨0, 0⟩ := by
  have hh : halvings 100000 = 0 := by decide
  have hz : seriesArg 100000 = 0 := by
    rw [seriesArg, hh]
    norm_num
  simp [logHumidity, hh, hz, logRatio, atanhSum_zero]

/-- Below 100 % the enclosure holds the logarithm strictly inside. -/
theorem logHumidity_encloses {m : Nat} (h1 : 1 ≤ m) (h2 : m < 100000) :
    ((logHumidity m).lo : ℝ) < Real.log ((m : ℝ) / 1000 / 100) ∧
      Real.log ((m : ℝ) / 1000 / 100) < ((logHumidity m).hi : ℝ) := by
  obtain ⟨hz0, hz1⟩ := seriesArg_bounds h1 h2.le
  obtain ⟨l2, u2⟩ := logRatio_encloses (z := 1 / 3) (by norm_num) (by norm_num)
  rw [log_humidity_eq h1]
  simp only [logHumidity]
  push_cast
  have hk : (0 : ℝ) ≤ halvings m := by positivity
  rcases hz0.eq_or_lt with hz | hz
  · have hk1 : (1 : ℝ) ≤ halvings m := by
      have : halvings m ≠ 0 := by
        intro h
        rw [seriesArg, h, eq_comm, div_eq_zero_iff] at hz
        have hm : (m : Rat) < 100000 := by exact_mod_cast h2
        have hm0 : (0 : Rat) ≤ m := by positivity
        rcases hz with hz | hz <;> linarith
      exact_mod_cast Nat.one_le_iff_ne_zero.mpr this
    have hlr : logRatio 0 = ⟨0, 0⟩ := by simp [logRatio, atanhSum_zero]
    rw [← hz, hlr]
    push_cast at l2 u2 ⊢
    norm_num at l2 u2 ⊢
    constructor <;> nlinarith
  · obtain ⟨l, u⟩ := logRatio_encloses hz (by linarith)
    push_cast at l2 u2 ⊢
    constructor <;> nlinarith

/-- The enclosure is narrow. -/
theorem logHumidity_width {m : Nat} (h1 : 1 ≤ m) (h2 : m ≤ 100000) :
    (logHumidity m).hi - (logHumidity m).lo ≤ 17 / 10 ^ 22 := by
  obtain ⟨hz0, hz1⟩ := seriesArg_bounds h1 h2
  have w2 := logRatio_width (z := 1 / 3) (by norm_num) le_rfl
  have w := logRatio_width hz0 hz1.le
  have hk : (halvings m : Rat) ≤ 16 := by exact_mod_cast halvings_le h1 h2
  have hk0 : (0 : Rat) ≤ halvings m := by positivity
  simp only [logHumidity]
  nlinarith

/-- The enclosure is at most 0: the humidity is at most 100 %. -/
theorem logHumidity_hi_le {m : Nat} (h1 : 1 ≤ m) (h2 : m ≤ 100000) : (logHumidity m).hi ≤ 0 := by
  have hn : ∀ z : Rat, 0 ≤ z → ∀ n, 0 ≤ atanhSum z n := by
    intro z hz n
    induction n with
    | zero => simp [atanhSum]
    | succ n ih => rw [atanhSum]; positivity
  have ha := hn (1 / 3) (by norm_num) seriesTerms
  have hb := hn _ (seriesArg_bounds h1 h2).1 seriesTerms
  have hk0 : (0 : Rat) ≤ halvings m := by positivity
  simp only [logHumidity, logRatio]
  nlinarith [mul_nonneg hk0 ha]

/-- A number strictly inside a narrow enclosure has the chosen neighbour for its floor or its ceiling. -/
theorem neighbour_of_mem {e : Enclosure} (up : Bool) {x : ℝ} (hlo : (e.lo : ℝ) < x) (hhi : x < (e.hi : ℝ))
    (hw : e.hi - e.lo < 1) : neighbour e up = ⌊x⌋ ∨ neighbour e up = ⌈x⌉ := by
  obtain ⟨a, c⟩ := e
  dsimp only at hlo hhi hw
  have hw' : (c : ℝ) - a < 1 := by exact_mod_cast hw
  have fa : ((⌊a⌋ : ℤ) : ℝ) ≤ a := by exact_mod_cast Int.floor_le a
  have fa' : (a : ℝ) < (⌊a⌋ : ℤ) + 1 := by exact_mod_cast Int.lt_floor_add_one a
  have fc : (c : ℝ) ≤ (⌈c⌉ : ℤ) := by exact_mod_cast Int.le_ceil c
  unfold neighbour
  dsimp only
  by_cases hle : ⌈c⌉ ≤ ⌊a⌋ + 1
  · have hle' : ((⌈c⌉ : ℤ) : ℝ) ≤ ⌊a⌋ + 1 := by exact_mod_cast hle
    rw [if_pos hle]
    cases up
    · left
      rw [if_neg (by decide)]
      exact (Int.floor_eq_iff.mpr ⟨by linarith, by linarith⟩).symm
    · right
      rw [if_pos rfl]
      exact (Int.ceil_eq_iff.mpr ⟨by linarith, by linarith⟩).symm
  · rw [if_neg hle]
    by_cases hx : x ≤ (⌊a⌋ : ℝ) + 1
    · right
      exact (Int.ceil_eq_iff.mpr ⟨by push_cast; linarith, by push_cast; linarith⟩).symm
    · left
      exact (Int.floor_eq_iff.mpr ⟨by push_cast; linarith, by push_cast; linarith⟩).symm

/-- A point enclosure has its own floor or ceiling for its neighbour. -/
theorem neighbour_point (q : Rat) (up : Bool) : neighbour ⟨q, q⟩ up = ⌊q⌋ ∨ neighbour ⟨q, q⟩ up = ⌈q⌉ := by
  unfold neighbour
  rw [if_pos (Int.ceil_le_floor_add_one _)]
  cases up
  · exact .inl rfl
  · exact .inr rfl

end Sys2Proof.Machine
end

