-- ==== Sys2Proof/Laws/State.lean ====
section
/-! SUPPORT. Every field after every update of the state, true by unfolding the update once; and what the answers at
hand and the views of the state are after it. -/

namespace Sys2Proof.Machine

variable (s : State)

/-! ### setLifecycle -/

@[simp] theorem State.setLifecycle_lifecycle (l : Lifecycle) : (s.setLifecycle l).lifecycle = l := rfl
@[simp] theorem State.setLifecycle_mode (l : Lifecycle) : (s.setLifecycle l).mode = s.mode := rfl
@[simp] theorem State.setLifecycle_lastReading (l : Lifecycle) : (s.setLifecycle l).lastReading = s.lastReading := rfl
@[simp] theorem State.setLifecycle_config (l : Lifecycle) : (s.setLifecycle l).config = s.config := rfl
@[simp] theorem State.setLifecycle_crcR (l : Lifecycle) : (s.setLifecycle l).crcR = s.crcR := rfl
@[simp] theorem State.setLifecycle_frame (l : Lifecycle) : (s.setLifecycle l).frame = s.frame := rfl
@[simp] theorem State.setLifecycle_log (l : Lifecycle) : (s.setLifecycle l).log = s.log := rfl
@[simp] theorem State.setLifecycle_rsp (l : Lifecycle) : (s.setLifecycle l).rsp = s.rsp := rfl
@[simp] theorem State.setLifecycle_reqReady (l : Lifecycle) : (s.setLifecycle l).reqReady = s.reqReady := rfl
@[simp] theorem State.setLifecycle_rspLog (l : Lifecycle) : (s.setLifecycle l).rspLog = s.rspLog := rfl
@[simp] theorem State.setLifecycle_inputs (l : Lifecycle) : (s.setLifecycle l).inputs = s.inputs := rfl
@[simp] theorem State.setLifecycle_writeAnswers (l : Lifecycle) : (s.setLifecycle l).writeAnswers = s.writeAnswers := rfl
@[simp] theorem State.setLifecycle_readAnswers (l : Lifecycle) : (s.setLifecycle l).readAnswers = s.readAnswers := rfl
@[simp] theorem State.setLifecycle_writesDrawn (l : Lifecycle) : (s.setLifecycle l).writesDrawn = s.writesDrawn := rfl
@[simp] theorem State.setLifecycle_readsDrawn (l : Lifecycle) : (s.setLifecycle l).readsDrawn = s.readsDrawn := rfl
@[simp] theorem State.setLifecycle_hiddenDrawn (l : Lifecycle) : (s.setLifecycle l).hiddenDrawn = s.hiddenDrawn := rfl
@[simp] theorem State.setLifecycle_nextWriteAnswer (l : Lifecycle) : (s.setLifecycle l).nextWriteAnswer = s.nextWriteAnswer := rfl
@[simp] theorem State.setLifecycle_nextReadAnswer (l : Lifecycle) : (s.setLifecycle l).nextReadAnswer = s.nextReadAnswer := rfl
@[simp] theorem State.setLifecycle_busAnswers (l : Lifecycle) : (s.setLifecycle l).busAnswers = s.busAnswers := rfl

/-! ### setMode -/

@[simp] theorem State.setMode_lifecycle (m : Mode) : (s.setMode m).lifecycle = s.lifecycle := rfl
@[simp] theorem State.setMode_mode (m : Mode) : (s.setMode m).mode = m := rfl
@[simp] theorem State.setMode_lastReading (m : Mode) : (s.setMode m).lastReading = s.lastReading := rfl
@[simp] theorem State.setMode_config (m : Mode) : (s.setMode m).config = s.config := rfl
@[simp] theorem State.setMode_crcR (m : Mode) : (s.setMode m).crcR = s.crcR := rfl
@[simp] theorem State.setMode_frame (m : Mode) : (s.setMode m).frame = s.frame := rfl
@[simp] theorem State.setMode_log (m : Mode) : (s.setMode m).log = s.log := rfl
@[simp] theorem State.setMode_rsp (m : Mode) : (s.setMode m).rsp = s.rsp := rfl
@[simp] theorem State.setMode_reqReady (m : Mode) : (s.setMode m).reqReady = s.reqReady := rfl
@[simp] theorem State.setMode_rspLog (m : Mode) : (s.setMode m).rspLog = s.rspLog := rfl
@[simp] theorem State.setMode_inputs (m : Mode) : (s.setMode m).inputs = s.inputs := rfl
@[simp] theorem State.setMode_writeAnswers (m : Mode) : (s.setMode m).writeAnswers = s.writeAnswers := rfl
@[simp] theorem State.setMode_readAnswers (m : Mode) : (s.setMode m).readAnswers = s.readAnswers := rfl
@[simp] theorem State.setMode_writesDrawn (m : Mode) : (s.setMode m).writesDrawn = s.writesDrawn := rfl
@[simp] theorem State.setMode_readsDrawn (m : Mode) : (s.setMode m).readsDrawn = s.readsDrawn := rfl
@[simp] theorem State.setMode_hiddenDrawn (m : Mode) : (s.setMode m).hiddenDrawn = s.hiddenDrawn := rfl
@[simp] theorem State.setMode_nextWriteAnswer (m : Mode) : (s.setMode m).nextWriteAnswer = s.nextWriteAnswer := rfl
@[simp] theorem State.setMode_nextReadAnswer (m : Mode) : (s.setMode m).nextReadAnswer = s.nextReadAnswer := rfl
@[simp] theorem State.setMode_busAnswers (m : Mode) : (s.setMode m).busAnswers = s.busAnswers := rfl

/-! ### setLastReading -/

@[simp] theorem State.setLastReading_lifecycle (r : Reading) : (s.setLastReading r).lifecycle = s.lifecycle := rfl
@[simp] theorem State.setLastReading_mode (r : Reading) : (s.setLastReading r).mode = s.mode := rfl
@[simp] theorem State.setLastReading_lastReading (r : Reading) : (s.setLastReading r).lastReading = some r := rfl
@[simp] theorem State.setLastReading_config (r : Reading) : (s.setLastReading r).config = s.config := rfl
@[simp] theorem State.setLastReading_crcR (r : Reading) : (s.setLastReading r).crcR = s.crcR := rfl
@[simp] theorem State.setLastReading_frame (r : Reading) : (s.setLastReading r).frame = s.frame := rfl
@[simp] theorem State.setLastReading_log (r : Reading) : (s.setLastReading r).log = s.log := rfl
@[simp] theorem State.setLastReading_rsp (r : Reading) : (s.setLastReading r).rsp = s.rsp := rfl
@[simp] theorem State.setLastReading_reqReady (r : Reading) : (s.setLastReading r).reqReady = s.reqReady := rfl
@[simp] theorem State.setLastReading_rspLog (r : Reading) : (s.setLastReading r).rspLog = s.rspLog := rfl
@[simp] theorem State.setLastReading_inputs (r : Reading) : (s.setLastReading r).inputs = s.inputs := rfl
@[simp] theorem State.setLastReading_writeAnswers (r : Reading) : (s.setLastReading r).writeAnswers = s.writeAnswers := rfl
@[simp] theorem State.setLastReading_readAnswers (r : Reading) : (s.setLastReading r).readAnswers = s.readAnswers := rfl
@[simp] theorem State.setLastReading_writesDrawn (r : Reading) : (s.setLastReading r).writesDrawn = s.writesDrawn := rfl
@[simp] theorem State.setLastReading_readsDrawn (r : Reading) : (s.setLastReading r).readsDrawn = s.readsDrawn := rfl
@[simp] theorem State.setLastReading_hiddenDrawn (r : Reading) : (s.setLastReading r).hiddenDrawn = s.hiddenDrawn := rfl
@[simp] theorem State.setLastReading_nextWriteAnswer (r : Reading) : (s.setLastReading r).nextWriteAnswer = s.nextWriteAnswer := rfl
@[simp] theorem State.setLastReading_nextReadAnswer (r : Reading) : (s.setLastReading r).nextReadAnswer = s.nextReadAnswer := rfl
@[simp] theorem State.setLastReading_busAnswers (r : Reading) : (s.setLastReading r).busAnswers = s.busAnswers := rfl
@[simp] theorem State.setLastReading_held (r : Reading) : (s.setLastReading r).held = s.held := rfl

/-! ### append -/

@[simp] theorem State.append_lifecycle (es : List LogEvent) : (s.append es).lifecycle = s.lifecycle := rfl
@[simp] theorem State.append_mode (es : List LogEvent) : (s.append es).mode = s.mode := rfl
@[simp] theorem State.append_lastReading (es : List LogEvent) : (s.append es).lastReading = s.lastReading := rfl
@[simp] theorem State.append_config (es : List LogEvent) : (s.append es).config = s.config := rfl
@[simp] theorem State.append_crcR (es : List LogEvent) : (s.append es).crcR = s.crcR := rfl
@[simp] theorem State.append_frame (es : List LogEvent) : (s.append es).frame = s.frame := rfl
@[simp] theorem State.append_log (es : List LogEvent) : (s.append es).log = s.log ++ es := rfl
@[simp] theorem State.append_rsp (es : List LogEvent) : (s.append es).rsp = s.rsp := rfl
@[simp] theorem State.append_reqReady (es : List LogEvent) : (s.append es).reqReady = s.reqReady := rfl
@[simp] theorem State.append_rspLog (es : List LogEvent) : (s.append es).rspLog = s.rspLog := rfl
@[simp] theorem State.append_inputs (es : List LogEvent) : (s.append es).inputs = s.inputs := rfl
@[simp] theorem State.append_writeAnswers (es : List LogEvent) : (s.append es).writeAnswers = s.writeAnswers := rfl
@[simp] theorem State.append_readAnswers (es : List LogEvent) : (s.append es).readAnswers = s.readAnswers := rfl
@[simp] theorem State.append_writesDrawn (es : List LogEvent) : (s.append es).writesDrawn = s.writesDrawn := rfl
@[simp] theorem State.append_readsDrawn (es : List LogEvent) : (s.append es).readsDrawn = s.readsDrawn := rfl
@[simp] theorem State.append_hiddenDrawn (es : List LogEvent) : (s.append es).hiddenDrawn = s.hiddenDrawn := rfl
@[simp] theorem State.append_nextWriteAnswer (es : List LogEvent) : (s.append es).nextWriteAnswer = s.nextWriteAnswer := rfl
@[simp] theorem State.append_nextReadAnswer (es : List LogEvent) : (s.append es).nextReadAnswer = s.nextReadAnswer := rfl
@[simp] theorem State.append_busAnswers (es : List LogEvent) : (s.append es).busAnswers = s.busAnswers := rfl
@[simp] theorem State.append_held (es : List LogEvent) : (s.append es).held = s.held := rfl

/-! ### checksum -/

@[simp] theorem State.checksum_lifecycle (bs : List Byte) : (s.checksum bs).lifecycle = s.lifecycle := rfl
@[simp] theorem State.checksum_mode (bs : List Byte) : (s.checksum bs).mode = s.mode := rfl
@[simp] theorem State.checksum_lastReading (bs : List Byte) : (s.checksum bs).lastReading = s.lastReading := rfl
@[simp] theorem State.checksum_config (bs : List Byte) : (s.checksum bs).config = s.config := rfl
@[simp] theorem State.checksum_crcR (bs : List Byte) : (s.checksum bs).crcR = crc8 bs := rfl
@[simp] theorem State.checksum_frame (bs : List Byte) : (s.checksum bs).frame = s.frame := rfl
@[simp] theorem State.checksum_log (bs : List Byte) : (s.checksum bs).log = s.log := rfl
@[simp] theorem State.checksum_rsp (bs : List Byte) : (s.checksum bs).rsp = s.rsp := rfl
@[simp] theorem State.checksum_reqReady (bs : List Byte) : (s.checksum bs).reqReady = s.reqReady := rfl
@[simp] theorem State.checksum_rspLog (bs : List Byte) : (s.checksum bs).rspLog = s.rspLog := rfl
@[simp] theorem State.checksum_inputs (bs : List Byte) : (s.checksum bs).inputs = s.inputs := rfl
@[simp] theorem State.checksum_writeAnswers (bs : List Byte) : (s.checksum bs).writeAnswers = s.writeAnswers := rfl
@[simp] theorem State.checksum_readAnswers (bs : List Byte) : (s.checksum bs).readAnswers = s.readAnswers := rfl
@[simp] theorem State.checksum_writesDrawn (bs : List Byte) : (s.checksum bs).writesDrawn = s.writesDrawn := rfl
@[simp] theorem State.checksum_readsDrawn (bs : List Byte) : (s.checksum bs).readsDrawn = s.readsDrawn := rfl
@[simp] theorem State.checksum_hiddenDrawn (bs : List Byte) : (s.checksum bs).hiddenDrawn = s.hiddenDrawn := rfl
@[simp] theorem State.checksum_nextWriteAnswer (bs : List Byte) : (s.checksum bs).nextWriteAnswer = s.nextWriteAnswer := rfl
@[simp] theorem State.checksum_nextReadAnswer (bs : List Byte) : (s.checksum bs).nextReadAnswer = s.nextReadAnswer := rfl
@[simp] theorem State.checksum_busAnswers (bs : List Byte) : (s.checksum bs).busAnswers = s.busAnswers := rfl
@[simp] theorem State.checksum_held (bs : List Byte) : (s.checksum bs).held = s.held := rfl

/-! ### fillFrame -/

@[simp] theorem State.fillFrame_lifecycle (bs : List Byte) : (s.fillFrame bs).lifecycle = s.lifecycle := rfl
@[simp] theorem State.fillFrame_mode (bs : List Byte) : (s.fillFrame bs).mode = s.mode := rfl
@[simp] theorem State.fillFrame_lastReading (bs : List Byte) : (s.fillFrame bs).lastReading = s.lastReading := rfl
@[simp] theorem State.fillFrame_config (bs : List Byte) : (s.fillFrame bs).config = s.config := rfl
@[simp] theorem State.fillFrame_crcR (bs : List Byte) : (s.fillFrame bs).crcR = s.crcR := rfl
@[simp] theorem State.fillFrame_frame (bs : List Byte) : (s.fillFrame bs).frame = Vector.ofFn (fun i : Fin 6 => bs.getD i.val s.frame[i]) := rfl
@[simp] theorem State.fillFrame_log (bs : List Byte) : (s.fillFrame bs).log = s.log := rfl
@[simp] theorem State.fillFrame_rsp (bs : List Byte) : (s.fillFrame bs).rsp = s.rsp := rfl
@[simp] theorem State.fillFrame_reqReady (bs : List Byte) : (s.fillFrame bs).reqReady = s.reqReady := rfl
@[simp] theorem State.fillFrame_rspLog (bs : List Byte) : (s.fillFrame bs).rspLog = s.rspLog := rfl
@[simp] theorem State.fillFrame_inputs (bs : List Byte) : (s.fillFrame bs).inputs = s.inputs := rfl
@[simp] theorem State.fillFrame_writeAnswers (bs : List Byte) : (s.fillFrame bs).writeAnswers = s.writeAnswers := rfl
@[simp] theorem State.fillFrame_readAnswers (bs : List Byte) : (s.fillFrame bs).readAnswers = s.readAnswers := rfl
@[simp] theorem State.fillFrame_writesDrawn (bs : List Byte) : (s.fillFrame bs).writesDrawn = s.writesDrawn := rfl
@[simp] theorem State.fillFrame_readsDrawn (bs : List Byte) : (s.fillFrame bs).readsDrawn = s.readsDrawn := rfl
@[simp] theorem State.fillFrame_hiddenDrawn (bs : List Byte) : (s.fillFrame bs).hiddenDrawn = s.hiddenDrawn := rfl
@[simp] theorem State.fillFrame_nextWriteAnswer (bs : List Byte) : (s.fillFrame bs).nextWriteAnswer = s.nextWriteAnswer := rfl
@[simp] theorem State.fillFrame_nextReadAnswer (bs : List Byte) : (s.fillFrame bs).nextReadAnswer = s.nextReadAnswer := rfl
@[simp] theorem State.fillFrame_busAnswers (bs : List Byte) : (s.fillFrame bs).busAnswers = s.busAnswers := rfl
@[simp] theorem State.fillFrame_held (bs : List Byte) : (s.fillFrame bs).held = s.held := rfl

/-! ### present -/

@[simp] theorem State.present_lifecycle (r : Response) : (s.present r).lifecycle = s.lifecycle := rfl
@[simp] theorem State.present_mode (r : Response) : (s.present r).mode = s.mode := rfl
@[simp] theorem State.present_lastReading (r : Response) : (s.present r).lastReading = s.lastReading := rfl
@[simp] theorem State.present_config (r : Response) : (s.present r).config = s.config := rfl
@[simp] theorem State.present_crcR (r : Response) : (s.present r).crcR = s.crcR := rfl
@[simp] theorem State.present_frame (r : Response) : (s.present r).frame = s.frame := rfl
@[simp] theorem State.present_log (r : Response) : (s.present r).log = s.log := rfl
@[simp] theorem State.present_rsp (r : Response) : (s.present r).rsp = some r := rfl
@[simp] theorem State.present_reqReady (r : Response) : (s.present r).reqReady = true := rfl
@[simp] theorem State.present_rspLog (r : Response) : (s.present r).rspLog = s.rspLog ++ [r] := rfl
@[simp] theorem State.present_inputs (r : Response) : (s.present r).inputs = s.inputs := rfl
@[simp] theorem State.present_writeAnswers (r : Response) : (s.present r).writeAnswers = s.writeAnswers := rfl
@[simp] theorem State.present_readAnswers (r : Response) : (s.present r).readAnswers = s.readAnswers := rfl
@[simp] theorem State.present_writesDrawn (r : Response) : (s.present r).writesDrawn = s.writesDrawn := rfl
@[simp] theorem State.present_readsDrawn (r : Response) : (s.present r).readsDrawn = s.readsDrawn := rfl
@[simp] theorem State.present_hiddenDrawn (r : Response) : (s.present r).hiddenDrawn = s.hiddenDrawn := rfl
@[simp] theorem State.present_nextWriteAnswer (r : Response) : (s.present r).nextWriteAnswer = s.nextWriteAnswer := rfl
@[simp] theorem State.present_nextReadAnswer (r : Response) : (s.present r).nextReadAnswer = s.nextReadAnswer := rfl
@[simp] theorem State.present_busAnswers (r : Response) : (s.present r).busAnswers = s.busAnswers := rfl
@[simp] theorem State.present_held (r : Response) : (s.present r).held = s.held := rfl

/-! ### consumeWrite -/

@[simp] theorem State.consumeWrite_lifecycle : s.consumeWrite.lifecycle = s.lifecycle := rfl
@[simp] theorem State.consumeWrite_mode : s.consumeWrite.mode = s.mode := rfl
@[simp] theorem State.consumeWrite_lastReading : s.consumeWrite.lastReading = s.lastReading := rfl
@[simp] theorem State.consumeWrite_config : s.consumeWrite.config = s.config := rfl
@[simp] theorem State.consumeWrite_crcR : s.consumeWrite.crcR = s.crcR := rfl
@[simp] theorem State.consumeWrite_frame : s.consumeWrite.frame = s.frame := rfl
@[simp] theorem State.consumeWrite_log : s.consumeWrite.log = s.log := rfl
@[simp] theorem State.consumeWrite_rsp : s.consumeWrite.rsp = s.rsp := rfl
@[simp] theorem State.consumeWrite_reqReady : s.consumeWrite.reqReady = s.reqReady := rfl
@[simp] theorem State.consumeWrite_rspLog : s.consumeWrite.rspLog = s.rspLog := rfl
@[simp] theorem State.consumeWrite_inputs : s.consumeWrite.inputs = s.inputs := rfl
@[simp] theorem State.consumeWrite_writeAnswers : s.consumeWrite.writeAnswers = s.writeAnswers.tail := rfl
@[simp] theorem State.consumeWrite_readAnswers : s.consumeWrite.readAnswers = s.readAnswers := rfl
@[simp] theorem State.consumeWrite_writesDrawn : s.consumeWrite.writesDrawn = s.writesDrawn + if s.writeAnswers.isEmpty then 1 else 0 := rfl
@[simp] theorem State.consumeWrite_readsDrawn : s.consumeWrite.readsDrawn = s.readsDrawn := rfl
@[simp] theorem State.consumeWrite_hiddenDrawn : s.consumeWrite.hiddenDrawn = s.hiddenDrawn := rfl
@[simp] theorem State.consumeWrite_nextReadAnswer : s.consumeWrite.nextReadAnswer = s.nextReadAnswer := rfl
@[simp] theorem State.consumeWrite_held : s.consumeWrite.held = s.held := rfl

/-! ### consumeRead -/

@[simp] theorem State.consumeRead_lifecycle : s.consumeRead.lifecycle = s.lifecycle := rfl
@[simp] theorem State.consumeRead_mode : s.consumeRead.mode = s.mode := rfl
@[simp] theorem State.consumeRead_lastReading : s.consumeRead.lastReading = s.lastReading := rfl
@[simp] theorem State.consumeRead_config : s.consumeRead.config = s.config := rfl
@[simp] theorem State.consumeRead_crcR : s.consumeRead.crcR = s.crcR := rfl
@[simp] theorem State.consumeRead_frame : s.consumeRead.frame = s.frame := rfl
@[simp] theorem State.consumeRead_log : s.consumeRead.log = s.log := rfl
@[simp] theorem State.consumeRead_rsp : s.consumeRead.rsp = s.rsp := rfl
@[simp] theorem State.consumeRead_reqReady : s.consumeRead.reqReady = s.reqReady := rfl
@[simp] theorem State.consumeRead_rspLog : s.consumeRead.rspLog = s.rspLog := rfl
@[simp] theorem State.consumeRead_inputs : s.consumeRead.inputs = s.inputs := rfl
@[simp] theorem State.consumeRead_writeAnswers : s.consumeRead.writeAnswers = s.writeAnswers := rfl
@[simp] theorem State.consumeRead_readAnswers : s.consumeRead.readAnswers = s.readAnswers.tail := rfl
@[simp] theorem State.consumeRead_writesDrawn : s.consumeRead.writesDrawn = s.writesDrawn := rfl
@[simp] theorem State.consumeRead_readsDrawn : s.consumeRead.readsDrawn = s.readsDrawn + if s.readAnswers.isEmpty then 1 else 0 := rfl
@[simp] theorem State.consumeRead_hiddenDrawn : s.consumeRead.hiddenDrawn = s.hiddenDrawn := rfl
@[simp] theorem State.consumeRead_nextWriteAnswer : s.consumeRead.nextWriteAnswer = s.nextWriteAnswer := rfl
@[simp] theorem State.consumeRead_held : s.consumeRead.held = s.held := rfl

/-! ### leaveHidden -/

@[simp] theorem State.leaveHidden_lifecycle : s.leaveHidden.lifecycle = s.lifecycle := rfl
@[simp] theorem State.leaveHidden_mode : s.leaveHidden.mode = s.mode := rfl
@[simp] theorem State.leaveHidden_lastReading : s.leaveHidden.lastReading = s.lastReading := rfl
@[simp] theorem State.leaveHidden_config : s.leaveHidden.config = s.config := rfl
@[simp] theorem State.leaveHidden_crcR : s.leaveHidden.crcR = Config.freeCrcRegister s.hiddenDrawn := rfl
@[simp] theorem State.leaveHidden_frame : s.leaveHidden.frame = Config.freeFrame s.hiddenDrawn := rfl
@[simp] theorem State.leaveHidden_log : s.leaveHidden.log = s.log := rfl
@[simp] theorem State.leaveHidden_rsp : s.leaveHidden.rsp = s.rsp := rfl
@[simp] theorem State.leaveHidden_reqReady : s.leaveHidden.reqReady = s.reqReady := rfl
@[simp] theorem State.leaveHidden_rspLog : s.leaveHidden.rspLog = s.rspLog := rfl
@[simp] theorem State.leaveHidden_inputs : s.leaveHidden.inputs = s.inputs := rfl
@[simp] theorem State.leaveHidden_writeAnswers : s.leaveHidden.writeAnswers = s.writeAnswers := rfl
@[simp] theorem State.leaveHidden_readAnswers : s.leaveHidden.readAnswers = s.readAnswers := rfl
@[simp] theorem State.leaveHidden_writesDrawn : s.leaveHidden.writesDrawn = s.writesDrawn := rfl
@[simp] theorem State.leaveHidden_readsDrawn : s.leaveHidden.readsDrawn = s.readsDrawn := rfl
@[simp] theorem State.leaveHidden_hiddenDrawn : s.leaveHidden.hiddenDrawn = s.hiddenDrawn + 1 := rfl
@[simp] theorem State.leaveHidden_nextWriteAnswer : s.leaveHidden.nextWriteAnswer = s.nextWriteAnswer := rfl
@[simp] theorem State.leaveHidden_nextReadAnswer : s.leaveHidden.nextReadAnswer = s.nextReadAnswer := rfl
@[simp] theorem State.leaveHidden_busAnswers : s.leaveHidden.busAnswers = s.busAnswers := rfl
@[simp] theorem State.leaveHidden_held : s.leaveHidden.held = s.held := rfl

/-! ### accept -/

@[simp] theorem State.accept_lifecycle (rest : List HostMove) : (s.accept rest).lifecycle = s.lifecycle := rfl
@[simp] theorem State.accept_mode (rest : List HostMove) : (s.accept rest).mode = s.mode := rfl
@[simp] theorem State.accept_lastReading (rest : List HostMove) : (s.accept rest).lastReading = s.lastReading := rfl
@[simp] theorem State.accept_config (rest : List HostMove) : (s.accept rest).config = s.config := rfl
@[simp] theorem State.accept_crcR (rest : List HostMove) : (s.accept rest).crcR = s.crcR := rfl
@[simp] theorem State.accept_frame (rest : List HostMove) : (s.accept rest).frame = s.frame := rfl
@[simp] theorem State.accept_log (rest : List HostMove) : (s.accept rest).log = s.log := rfl
@[simp] theorem State.accept_rsp (rest : List HostMove) : (s.accept rest).rsp = none := rfl
@[simp] theorem State.accept_reqReady (rest : List HostMove) : (s.accept rest).reqReady = false := rfl
@[simp] theorem State.accept_rspLog (rest : List HostMove) : (s.accept rest).rspLog = s.rspLog := rfl
@[simp] theorem State.accept_inputs (rest : List HostMove) : (s.accept rest).inputs = rest := rfl
@[simp] theorem State.accept_writeAnswers (rest : List HostMove) : (s.accept rest).writeAnswers = s.writeAnswers := rfl
@[simp] theorem State.accept_readAnswers (rest : List HostMove) : (s.accept rest).readAnswers = s.readAnswers := rfl
@[simp] theorem State.accept_writesDrawn (rest : List HostMove) : (s.accept rest).writesDrawn = s.writesDrawn := rfl
@[simp] theorem State.accept_readsDrawn (rest : List HostMove) : (s.accept rest).readsDrawn = s.readsDrawn := rfl
@[simp] theorem State.accept_hiddenDrawn (rest : List HostMove) : (s.accept rest).hiddenDrawn = s.hiddenDrawn := rfl
@[simp] theorem State.accept_nextWriteAnswer (rest : List HostMove) : (s.accept rest).nextWriteAnswer = s.nextWriteAnswer := rfl
@[simp] theorem State.accept_nextReadAnswer (rest : List HostMove) : (s.accept rest).nextReadAnswer = s.nextReadAnswer := rfl
@[simp] theorem State.accept_busAnswers (rest : List HostMove) : (s.accept rest).busAnswers = s.busAnswers := rfl
@[simp] theorem State.accept_held (rest : List HostMove) : (s.accept rest).held = s.held := rfl

/-! ### offer -/

@[simp] theorem State.offer_lifecycle (w : Request) : (s.offer w).lifecycle = s.lifecycle := rfl
@[simp] theorem State.offer_mode (w : Request) : (s.offer w).mode = s.mode := rfl
@[simp] theorem State.offer_lastReading (w : Request) : (s.offer w).lastReading = s.lastReading := rfl
@[simp] theorem State.offer_config (w : Request) : (s.offer w).config = s.config := rfl
@[simp] theorem State.offer_crcR (w : Request) : (s.offer w).crcR = s.crcR := rfl
@[simp] theorem State.offer_frame (w : Request) : (s.offer w).frame = s.frame := rfl
@[simp] theorem State.offer_log (w : Request) : (s.offer w).log = s.log := rfl
@[simp] theorem State.offer_rsp (w : Request) : (s.offer w).rsp = s.rsp := rfl
@[simp] theorem State.offer_reqReady (w : Request) : (s.offer w).reqReady = true := rfl
@[simp] theorem State.offer_rspLog (w : Request) : (s.offer w).rspLog = s.rspLog := rfl
@[simp] theorem State.offer_inputs (w : Request) : (s.offer w).inputs = .request w :: s.inputs := rfl
@[simp] theorem State.offer_writeAnswers (w : Request) : (s.offer w).writeAnswers = s.writeAnswers := rfl
@[simp] theorem State.offer_readAnswers (w : Request) : (s.offer w).readAnswers = s.readAnswers := rfl
@[simp] theorem State.offer_writesDrawn (w : Request) : (s.offer w).writesDrawn = s.writesDrawn := rfl
@[simp] theorem State.offer_readsDrawn (w : Request) : (s.offer w).readsDrawn = s.readsDrawn := rfl
@[simp] theorem State.offer_hiddenDrawn (w : Request) : (s.offer w).hiddenDrawn = s.hiddenDrawn := rfl
@[simp] theorem State.offer_nextWriteAnswer (w : Request) : (s.offer w).nextWriteAnswer = s.nextWriteAnswer := rfl
@[simp] theorem State.offer_nextReadAnswer (w : Request) : (s.offer w).nextReadAnswer = s.nextReadAnswer := rfl
@[simp] theorem State.offer_busAnswers (w : Request) : (s.offer w).busAnswers = s.busAnswers := rfl
@[simp] theorem State.offer_held (w : Request) : (s.offer w).held = s.held := rfl

/-! ### Spelled as `append` and `present` -/

theorem State.emit_eq (e : SinkEvent) : s.emit e = s.append [.sink e] := rfl
theorem State.settle_eq (us : Nat) : s.settle us = s.append [.bus (.settle us)] := rfl
theorem State.report_eq (op : OpCode) (ws : List WordName) :
    s.report op ws = s.append (ws.map (fun w => faultEvent op (.protocol w))) := rfl
theorem State.takeFault_eq (op : OpCode) (d : Detail) :
    s.takeFault op d = (s.append [faultEvent op d]).present ⟨detailCode d, some d, .empty⟩ := rfl
theorem keepReading_eq (bs : List Byte) :
    keepReading bs s = ((s.checksum [byteAt bs 0, byteAt bs 1]).checksum [byteAt bs 3, byteAt bs 4]).setLastReading
      (decodeFrame s.config.numerics bs) := rfl

@[simp] theorem State.append_nil : s.append [] = s := by simp [State.append]
@[simp] theorem State.append_append (a b : List LogEvent) : (s.append a).append b = s.append (a ++ b) := by
  simp [State.append]

@[simp] theorem busEvents_append (a b : List LogEvent) : busEvents (a ++ b) = busEvents a ++ busEvents b := by
  simp [busEvents]
@[simp] theorem sinkEvents_append (a b : List LogEvent) : sinkEvents (a ++ b) = sinkEvents a ++ sinkEvents b := by
  simp [sinkEvents]

/-- A state whose listed answers hold no silence has a next write answer. -/
theorem nextWriteAnswer_isSome_of_busAnswers (h : s.busAnswers = true) : s.nextWriteAnswer.isSome = true := by
  unfold State.busAnswers at h
  unfold State.nextWriteAnswer
  cases hw : s.writeAnswers with
  | nil => rfl
  | cons a rest => simp_all

/-- A state whose listed answers hold no silence has a next read answer. -/
theorem nextReadAnswer_isSome_of_busAnswers (h : s.busAnswers = true) : s.nextReadAnswer.isSome = true := by
  unfold State.busAnswers at h
  unfold State.nextReadAnswer
  cases hw : s.readAnswers with
  | nil => rfl
  | cons a rest => simp_all

theorem busAnswers_consumeWrite (h : s.busAnswers = true) : s.consumeWrite.busAnswers = true := by
  simp only [State.busAnswers, State.consumeWrite, Bool.and_eq_true, List.all_eq_true] at h ⊢
  exact ⟨fun a ha => h.1 a (List.mem_of_mem_tail ha), h.2⟩

theorem busAnswers_consumeRead (h : s.busAnswers = true) : s.consumeRead.busAnswers = true := by
  simp only [State.busAnswers, State.consumeRead, Bool.and_eq_true, List.all_eq_true] at h ⊢
  exact ⟨h.1, fun a ha => h.2 a (List.mem_of_mem_tail ha)⟩

end Sys2Proof.Machine
end

