-- ==== Sys2Proof/Laws/Ops.lean ====
section
/-! SUPPORT. What each shared operation can do, once: admission, the end of an operation, the bus primitives. -/

namespace Sys2Proof.Machine

/-! ### Flow -/

@[simp] theorem Flow.bind_go {α β : Type} (a : α) (s : State) (k : α → State → Flow β) :
    (Flow.go a s).bind k = k a s := rfl
@[simp] theorem Flow.bind_raise {α β : Type} (d : Detail) (s : State) (k : α → State → Flow β) :
    (Flow.raise d s).bind k = .raise d s := rfl
@[simp] theorem Flow.bind_never {α β : Type} (k : α → State → Flow β) :
    (Flow.never : Flow α).bind k = .never := rfl
@[simp] theorem Flow.onRaise_go {α : Type} (u : State → State) (a : α) (s : State) :
    (Flow.go a s).onRaise u = .go a s := rfl
@[simp] theorem Flow.onRaise_raise {α : Type} (u : State → State) (d : Detail) (s : State) :
    (Flow.raise d s : Flow α).onRaise u = .raise d (u s) := rfl
@[simp] theorem Flow.onRaise_never {α : Type} (u : State → State) :
    (Flow.never : Flow α).onRaise u = .never := rfl
@[simp] theorem Flow.ends_go {α : Type} (a : α) (s : State) : (Flow.go a s).ends = true := rfl
@[simp] theorem Flow.ends_raise {α : Type} (d : Detail) (s : State) : (Flow.raise d s : Flow α).ends = true := rfl
@[simp] theorem Flow.ends_never {α : Type} : (Flow.never : Flow α).ends = false := rfl
@[simp] theorem Flow.final_go (op : OpCode) (a : Answer) (t s : State) :
    (Flow.go a t).final op s = t.present (responseOf a) := rfl
@[simp] theorem Flow.final_raise (op : OpCode) (d : Detail) (t s : State) :
    (Flow.raise d t).final op s = t.takeFault op d := rfl

theorem Flow.bind_assoc {α β γ : Type} (f : Flow α) (g : α → State → Flow β) (h : β → State → Flow γ) :
    (f.bind g).bind h = f.bind (fun a s => (g a s).bind h) := by
  cases f <;> rfl

/-! ### Admission (R281) -/

theorem admit_opened (op : OpCode) {s : State} (h : s.lifecycle = .opened) : admitRequest op none s = .go () s := by
  simp [admitRequest, h]

theorem admit_close {s : State} (h : s.lifecycle ≠ .configError) : admitRequest 0x11 none s = .go () s := by
  simp [admitRequest, h]

theorem admit_closed {op : OpCode} {s : State} (h : s.lifecycle = .closed) (hop : op ≠ 0x11) :
    admitRequest op none s = .raise (.usage .closed) s := by
  unfold admitRequest
  rw [if_neg (by simp [h])]
  exact if_pos ⟨h, hop⟩

theorem admit_bad (op : OpCode) (d : ParamDetail) {s : State} (h : s.lifecycle ≠ .configError) :
    admitRequest op (some d) s = .raise (.invalidParameter d) s := by
  simp [admitRequest, h]

theorem admit_configError (op : OpCode) (bad : Option ParamDetail) {s : State} (h : s.lifecycle = .configError) :
    admitRequest op bad s = .raise (.configuration (configDetail s.config)) s := by
  simp [admitRequest, h]

/-- Admission goes on in the state it found, or raises there one of its three faults. -/
theorem admit_cases (op : OpCode) (bad : Option ParamDetail) (s : State) :
    (admitRequest op bad s = .go () s ∧ bad = none ∧ s.lifecycle ≠ .configError ∧ (s.lifecycle = .closed → op = 0x11)) ∨
    ∃ d, admitRequest op bad s = .raise d s ∧
      ((s.lifecycle = .configError ∧ d = .configuration (configDetail s.config)) ∨
        (∃ p, bad = some p ∧ d = .invalidParameter p) ∨ (s.lifecycle = .closed ∧ d = .usage .closed)) := by
  by_cases h : s.lifecycle = .configError
  · exact .inr ⟨_, admit_configError op bad h, .inl ⟨h, rfl⟩⟩
  cases bad with
  | some p => exact .inr ⟨_, admit_bad op p h, .inr (.inl ⟨p, rfl, rfl⟩)⟩
  | none =>
    by_cases h2 : s.lifecycle = .closed ∧ op ≠ 0x11
    · exact .inr ⟨_, admit_closed h2.1 h2.2, .inr (.inr ⟨h2.1, rfl⟩)⟩
    · refine .inl ⟨?_, rfl, h, fun hc => by_contra fun ho => h2 ⟨hc, ho⟩⟩
      unfold admitRequest
      rw [if_neg h]
      exact if_neg h2

/-! ### The end of an operation -/

/-- An operation that ends in a held state answers a next state. -/
theorem closeOperation_of_ends (op : OpCode) {s : State} {f : Flow Answer} (h : s.held = true)
    (he : f.ends = true) : closeOperation op s f = .next (f.final op s) := by
  simp [closeOperation, h, he]

/-- An operation the bus leaves hanging is stuck. -/
theorem closeOperation_never (op : OpCode) {s : State} (h : s.held = true) (hb : s.busAnswers = false) :
    closeOperation op s .never = .fault .busNeverAnswers := by
  simp [closeOperation, h, hb]

theorem operation_opened (op : OpCode) {s : State} (body : State → Flow Answer) (h : s.Open) :
    operation op s body = closeOperation op s (body s) := by
  simp [operation, admit_opened op h.2]

theorem rejectRequest_eq (op : OpCode) (d : ParamDetail) {s : State} (h : s.held = true)
    (hl : s.lifecycle ≠ .configError) : rejectRequest op d s = .next (s.takeFault op (.invalidParameter d)) := by
  rw [rejectRequest, admit_bad op d hl, closeOperation_of_ends op h rfl]
  rfl

/-- A next write answer that never comes is one that is listed. -/
theorem busAnswers_of_nextWriteAnswer_none {s : State} (h : s.nextWriteAnswer = none) : s.busAnswers = false := by
  by_contra hb
  have := nextWriteAnswer_isSome_of_busAnswers s (by simpa using hb)
  simp [h] at this

/-- A next read answer that never comes is one that is listed. -/
theorem busAnswers_of_nextReadAnswer_none {s : State} (h : s.nextReadAnswer = none) : s.busAnswers = false := by
  by_contra hb
  have := nextReadAnswer_isSome_of_busAnswers s (by simpa using hb)
  simp [h] at this

/-! ### The bus primitives (R74, R75) -/

theorem busWrite_ack {s : State} (v : CommandWord) (h : s.nextWriteAnswer = some .ack) :
    busWrite v s = .go () (s.consumeWrite.append [writeEvent s.config v .ack, .sink (.writeDone v)]) := by
  simp [busWrite, h]

theorem busWrite_err {s : State} (v : CommandWord) {e : BusError} (h : s.nextWriteAnswer = some (.err e)) :
    busWrite v s = .raise (.transport e) (s.consumeWrite.append [writeEvent s.config v (.err e)]) := by
  simp [busWrite, h]

theorem busWrite_never {s : State} (v : CommandWord) (h : s.nextWriteAnswer = none) : busWrite v s = .never := by
  simp [busWrite, h]

theorem busRead_data {s : State} {n : Nat} {bs : List Byte} (h : s.nextReadAnswer = some (.data bs))
    (hn : bs.length = n) :
    busRead n s = .go bs ((s.consumeRead.append [readEvent s.config n (.data bs)]).fillFrame bs) := by
  simp [busRead, h, hn]

theorem busRead_short {s : State} {n : Nat} {bs : List Byte} (h : s.nextReadAnswer = some (.data bs))
    (hn : bs.length ≠ n) :
    busRead n s = .raise (.transport .io) (s.consumeRead.append [readEvent s.config n (.data bs)]) := by
  simp [busRead, h, hn]

theorem busRead_err {s : State} (n : Nat) {e : BusError} (h : s.nextReadAnswer = some (.err e)) :
    busRead n s = .raise (.transport e) (s.consumeRead.append [readEvent s.config n (.err e)]) := by
  simp [busRead, h]

theorem busRead_never {s : State} (n : Nat) (h : s.nextReadAnswer = none) : busRead n s = .never := by
  simp [busRead, h]

theorem command_ack {s : State} (key : CtKey) (us : Nat) (h : s.nextWriteAnswer = some .ack) :
    command key us s = .go () (s.consumeWrite.append (commandEvents s.config key us)) := by
  simp [command, busWrite_ack _ h, State.settle_eq, commandEvents, writeEvent]

theorem command_err {s : State} (key : CtKey) (us : Nat) {e : BusError} (h : s.nextWriteAnswer = some (.err e)) :
    command key us s = .raise (.transport e) (s.consumeWrite.append (failedCommand s.config key e)) := by
  simp [command, busWrite_err _ h, failedCommand, writeEvent]

theorem command_never {s : State} (key : CtKey) (us : Nat) (h : s.nextWriteAnswer = none) :
    command key us s = .never := by
  simp [command, busWrite_never _ h]

/-- The response of an operation is the response of the words it reported (R282). -/
theorem responseOf_eq (p : Payload) (ws : List WordName) : responseOf ⟨p, ws⟩ = reportedResponse ws p := by
  cases ws <;> rfl

theorem append_present (es : List LogEvent) (r : Response) (s : State) :
    (s.append es).present r = s.answers es r := rfl

theorem append_takeFault (op : OpCode) (d : Detail) (es : List LogEvent) (s : State) :
    (s.append es).takeFault op d = s.faults op d es := by
  simp [State.takeFault, State.faults, State.answers, State.append, State.present, faultEvent]

theorem takeFault_eq_faults (op : OpCode) (d : Detail) (s : State) : s.takeFault op d = s.faults op d [] := rfl

/-! ### Everything a shared operation can do, as cases -/

/-- The read answers that `BusRead(n)` turns into a TransportError, with the error it raises (R75). -/
abbrev ReadAnswer.Fails (a : ReadAnswer) (n : Nat) (e : BusError) : Prop :=
  a = .err e ∨ (∃ bs : List Byte, a = .data bs ∧ bs.length ≠ n ∧ e = .io)

theorem busRead_fails {s : State} {n : Nat} {a : ReadAnswer} {e : BusError} (h : s.nextReadAnswer = some a)
    (ha : ReadAnswer.Fails a n e) :
    busRead n s = .raise (.transport e) (s.consumeRead.append (readEvents s.config n a)) := by
  obtain rfl | ⟨bs, rfl, hn, rfl⟩ := ha
  · exact busRead_err _ h
  · exact busRead_short h hn

/-- A read answer has n bytes, or fails. -/
theorem readAnswer_cases (a : ReadAnswer) (n : Nat) :
    (∃ bs : List Byte, a = .data bs ∧ bs.length = n) ∨ ∃ e, ReadAnswer.Fails a n e := by
  cases a with
  | err e => exact .inr ⟨e, .inl rfl⟩
  | data bs =>
    by_cases h : bs.length = n
    · exact .inl ⟨bs, rfl, h⟩
    · exact .inr ⟨.io, .inr ⟨bs, rfl, h, rfl⟩⟩

/-- The three ways of a command: acknowledged, failed, or never answered. -/
theorem command_cases (key : CtKey) (us : Nat) (s : State) :
    (s.nextWriteAnswer = some .ack ∧
      command key us s = .go () (s.consumeWrite.append (commandEvents s.config key us))) ∨
    (∃ e, s.nextWriteAnswer = some (.err e) ∧
      command key us s = .raise (.transport e) (s.consumeWrite.append (failedCommand s.config key e))) ∨
    (s.nextWriteAnswer = none ∧ command key us s = .never) := by
  rcases h : s.nextWriteAnswer with _ | _ | e
  · exact .inr (.inr ⟨rfl, command_never _ _ h⟩)
  · exact .inl ⟨rfl, command_ack _ _ h⟩
  · exact .inr (.inl ⟨e, rfl, command_err _ _ h⟩)

/-- The three ways of a read: the bytes asked for, a failure, or never answered. -/
theorem busRead_cases (n : Nat) (s : State) :
    (∃ bs : List Byte, s.nextReadAnswer = some (.data bs) ∧ bs.length = n ∧
      busRead n s = .go bs ((s.consumeRead.append (readEvents s.config n (.data bs))).fillFrame bs)) ∨
    (∃ a e, s.nextReadAnswer = some a ∧ ReadAnswer.Fails a n e ∧
      busRead n s = .raise (.transport e) (s.consumeRead.append (readEvents s.config n a))) ∨
    (s.nextReadAnswer = none ∧ busRead n s = .never) := by
  rcases h : s.nextReadAnswer with _ | a
  · exact .inr (.inr ⟨rfl, busRead_never _ h⟩)
  · obtain ⟨bs, rfl, hn⟩ | ⟨e, he⟩ := readAnswer_cases a n
    · exact .inl ⟨bs, rfl, hn, busRead_data h hn⟩
    · exact .inr (.inl ⟨a, e, rfl, he, busRead_fails h he⟩)

theorem commandOnly_ack {s : State} (key : CtKey) (h : s.nextWriteAnswer = some .ack) :
    commandOnly key s =
      .go ⟨.empty, []⟩ (s.consumeWrite.append (commandEvents s.config key s.config.tCmdSettleUs)) := by
  rw [commandOnly, command_ack _ _ h]
  rfl

theorem commandOnly_err {s : State} (key : CtKey) {e : BusError} (h : s.nextWriteAnswer = some (.err e)) :
    commandOnly key s = .raise (.transport e) (s.consumeWrite.append (failedCommand s.config key e)) := by
  rw [commandOnly, command_err _ _ h]
  rfl

theorem stopSampling_idle {s : State} (h : s.mode = .idle) : stopSampling s = .go () s := if_pos h

theorem stopSampling_ack {s : State} (h : s.mode ≠ .idle) (hw : s.nextWriteAnswer = some .ack) :
    stopSampling s = .go ()
      ((s.consumeWrite.append (commandEvents s.config .stop s.config.tCmdSettleUs)).setMode .idle) := by
  rw [stopSampling, if_neg h, command_ack _ _ hw]
  rfl

theorem stopSampling_err {s : State} (h : s.mode ≠ .idle) {e : BusError} (hw : s.nextWriteAnswer = some (.err e)) :
    stopSampling s = .raise (.transport e) (s.consumeWrite.append (failedCommand s.config .stop e)) := by
  rw [stopSampling, if_neg h, command_err _ _ hw]
  rfl

/-- An operation that answers a next state began in a held one and came to an end there. -/
theorem closeOperation_next {op : OpCode} {s t : State} {f : Flow Answer} (h : closeOperation op s f = .next t) :
    s.held = true ∧ t = f.final op s ∧ (f.ends = true ∨ s.busAnswers = true) := by
  unfold closeOperation at h
  split at h
  · cases h
  · split at h
    · refine ⟨by simpa using ‹¬ s.held = false›, ?_, ?_⟩
      · cases h
        rfl
      · simp_all [or_comm]
    · cases h

/-- An operation never answers a fault but the one of a silent bus, and that from a held state. -/
theorem closeOperation_fault {op : OpCode} {s : State} {f : Flow Answer} {x : Fault}
    (h : closeOperation op s f = .fault x) :
    x = .busNeverAnswers ∧ s.held = true ∧ s.busAnswers = false ∧ f.ends = false := by
  unfold closeOperation at h
  split at h
  · cases h
  · split at h
    · cases h
    · simp_all

/-- An operation is refused in states that are never held, and only there. -/
theorem closeOperation_refused {op : OpCode} {s : State} {f : Flow Answer} :
    closeOperation op s f = .refused .stateNeverHeld ↔ s.held = false := by
  unfold closeOperation
  split
  · simp_all
  · split <;> simp_all

/-! ### What the bus sees of the event lists -/

@[simp] theorem busEvents_nil : busEvents [] = [] := rfl
@[simp] theorem busEvents_sink (e : SinkEvent) : busEvents [.sink e] = [] := rfl
@[simp] theorem busEvents_reportEvents (op : OpCode) (ws : List WordName) : busEvents (reportEvents op ws) = [] := by
  induction ws <;> simp_all [reportEvents, busEvents]
@[simp] theorem busEvents_sinks (es : List SinkEvent) : busEvents (es.map .sink) = [] := by
  induction es <;> simp_all [busEvents]
@[simp] theorem busEvents_commandEvents (cfg : Config) (key : CtKey) (us : Nat) :
    busEvents (commandEvents cfg key us) =
      [.write (busAddr cfg) (highByte (commandWord cfg key)) (lowByte (commandWord cfg key)) .ack, .settle us] := rfl
@[simp] theorem busEvents_failedCommand (cfg : Config) (key : CtKey) (e : BusError) :
    busEvents (failedCommand cfg key e) =
      [.write (busAddr cfg) (highByte (commandWord cfg key)) (lowByte (commandWord cfg key)) (.err e)] := rfl
@[simp] theorem busEvents_readEvents (cfg : Config) (n : Nat) (a : ReadAnswer) :
    busEvents (readEvents cfg n a) = [.read (busAddr cfg) n a] := rfl

/-! ### Operand codes -/

theorem repOfCode_isSome (rep : BitVec 2) : (repOfCode rep).isSome = repCodeOk rep := by
  revert rep
  decide

theorem rateOfCode_isSome (rate : BitVec 3) : (rateOfCode rate).isSome = rateCodeOk rate := by
  revert rate
  decide

end Sys2Proof.Machine
end

