-- ==== Sys2Proof/Laws/Frames.lean ====
section
/-! SUPPORT. What the frame decoders give of a frame written out byte by byte, and what a received frame does to
`FRAME`. -/

namespace Sys2Proof.Machine

theorem checkWord_eq (a b c : Byte) : checkWord a b c = decide (crc8 [a, b] = c) := rfl

/-- The words a decoded frame reports, temperature first (R174, R289). -/
theorem readingFaults_decodeFrame (n : Nat) (a b c d e f : Byte) :
    readingFaults (decodeFrame n [a, b, c, d, e, f]) =
      (if crc8 [a, b] = c then [] else [.wordT]) ++ (if crc8 [d, e] = f then [] else [.wordRh]) := by
  simp only [readingFaults, decodeFrame, makeReading, decodeWord, byteAt, checkWord]
  by_cases h : crc8 [a, b] = c <;> by_cases g : crc8 [d, e] = f <;> simp [h, g]

/-- The word a status read reports (R241). -/
theorem statusFaults_decodeStatus (o : StatusBitOrder) (a b c : Byte) :
    statusFaults (decodeStatus o a b c) = if crc8 [a, b] = c then [] else [.wordStatus] := by
  by_cases h : crc8 [a, b] = c <;> simp [statusFaults, decodeStatus, checkWord, h]

/-- The words a serial-number read reports (R243, R289). -/
theorem serialFaults_serialOf (a b c d e f : Byte) :
    serialFaults (serialOf [a, b, c, d, e, f]) =
      (if crc8 [a, b] = c then [] else [.wordSn0]) ++ (if crc8 [d, e] = f then [] else [.wordSn1]) := by
  simp only [serialFaults, serialOf, byteAt, checkWord]
  by_cases h : crc8 [a, b] = c <;> by_cases g : crc8 [d, e] = f <;> simp [h, g]

/-- Six bytes fill the frame (R75). -/
theorem fillFrame_six (s : State) (b0 b1 b2 b3 b4 b5 : Byte) :
    s.fillFrame [b0, b1, b2, b3, b4, b5] = { s with frame := #v[b0, b1, b2, b3, b4, b5] } := by
  simp only [State.fillFrame]
  congr 1

/-- Three bytes leave the frame's upper half (R75). -/
theorem fillFrame_three (s : State) (b0 b1 b2 : Byte) :
    s.fillFrame [b0, b1, b2] = { s with frame := #v[b0, b1, b2, s.frame[3], s.frame[4], s.frame[5]] } := by
  simp only [State.fillFrame]
  congr 1

/-- A list of six bytes, written out. -/
theorem exists_of_length_six {bs : List Byte} (h : bs.length = 6) :
    ∃ b0 b1 b2 b3 b4 b5, bs = [b0, b1, b2, b3, b4, b5] := by
  match bs, h with
  | [b0, b1, b2, b3, b4, b5], _ => exact ⟨_, _, _, _, _, _, rfl⟩

/-- A list of three bytes, written out. -/
theorem exists_of_length_three {bs : List Byte} (h : bs.length = 3) : ∃ b0 b1 b2, bs = [b0, b1, b2] := by
  match bs, h with
  | [b0, b1, b2], _ => exact ⟨_, _, _, rfl⟩

/-- The warnings as log entries, flag by flag (R242). -/
theorem map_sink_warnings (flags dev : BitVec 7) :
    (warnings flags dev).map LogEvent.sink =
      ([0, 1, 2, 3, 4, 5, 6].filter (fun k => dev.getLsbD k)).map
        (fun k => LogEvent.sink (.warning k (flags.getLsbD k))) := by
  simp [warnings, List.map_map, Function.comp_def, show List.range 7 = [0, 1, 2, 3, 4, 5, 6] from rfl]

theorem sampling_iff {m : Mode} : m.sampling = true ↔ (∃ f, m = .periodic f) ∨ m = .acceleratedResponse := by
  cases m <;> simp [Mode.sampling]

end Sys2Proof.Machine
end

