-- ==== Sys2Proof/Laws/PerInstr.lean ====
section
/-! SUPPORT. The per-instruction family `Selects`: the word of an instruction selects its own row of the opcode map, by
mask and match (R108). One lemma for each constructor. -/

namespace Sys2Proof.Laws.Selects

/-- The encoding of `i` carries the operation code of `i` and selects the row of that code (R108, R112). -/
def Statement (i : Instr) : Prop :=
  opField (encode i) = i.opCode ∧ ∃ r ∈ opRows, r.op = i.opCode ∧ selects (encode i) r = true

theorem crc8 (d0 d1 : Byte) : Statement (.crc8 d0 d1) := by
  refine ⟨opField_packRequest .., ⟨0x01, "CRC8", 0x0800000000000000, 0xFFFF0000FFFFFFFF⟩, by decide, rfl, ?_⟩
  rw [selects, beq_iff_eq]
  apply BitVec.eq_of_getLsbD_eq
  intro i hi
  simp only [encode, packRequest, BitVec.getLsbD_append, BitVec.getLsbD_and]
  interval_cases i <;> simp [Instr.opCode]

theorem validate (d0 d1 d2 : Byte) : Statement (.validate d0 d1 d2) := by
  refine ⟨opField_packRequest .., ⟨0x02, "VALIDATE", 0x1000000000000000, 0xFFFF000000FFFFFF⟩, by decide, rfl, ?_⟩
  rw [selects, beq_iff_eq]
  apply BitVec.eq_of_getLsbD_eq
  intro i hi
  simp only [encode, packRequest, BitVec.getLsbD_append, BitVec.getLsbD_and]
  interval_cases i <;> simp [Instr.opCode]

theorem decode (d0 d1 d2 d3 d4 d5 : Byte) : Statement (.decode d0 d1 d2 d3 d4 d5) := by
  refine ⟨opField_packRequest .., ⟨0x03, "DECODE", 0x1800000000000000, 0xFFFF000000000000⟩, by decide, rfl, ?_⟩
  rw [selects, beq_iff_eq]
  apply BitVec.eq_of_getLsbD_eq
  intro i hi
  simp only [encode, packRequest, BitVec.getLsbD_append, BitVec.getLsbD_and]
  interval_cases i <;> simp [Instr.opCode]

theorem singleShot (rep : BitVec 2) : Statement (.singleShot rep) := by
  refine ⟨opField_packRequest .., ⟨0x04, "SINGLE_SHOT", 0x2000000000000000, 0xFF3FFFFFFFFFFFFF⟩, by decide, rfl, ?_⟩
  revert rep
  decide

theorem startPeriodic (rate : BitVec 3) (rep : BitVec 2) : Statement (.startPeriodic rate rep) := by
  refine ⟨opField_packRequest .., ⟨0x05, "START_PERIODIC", 0x2800000000000000, 0xF83FFFFFFFFFFFFF⟩, by decide, rfl, ?_⟩
  revert rate rep
  decide

theorem readData : Statement .readData := by
  unfold Statement
  decide

theorem fetch : Statement .fetch := by
  unfold Statement
  decide

theorem startArt : Statement .startArt := by
  unfold Statement
  decide

theorem stop : Statement .stop := by
  unfold Statement
  decide

theorem softReset : Statement .softReset := by
  unfold Statement
  decide

theorem status : Statement .status := by
  unfold Statement
  decide

theorem checkStatus : Statement .checkStatus := by
  unfold Statement
  decide

theorem serial : Statement .serial := by
  unfold Statement
  decide

theorem heaterEn : Statement .heaterEn := by
  unfold Statement
  decide

theorem heaterDis : Statement .heaterDis := by
  unfold Statement
  decide

theorem clearStatus : Statement .clearStatus := by
  unfold Statement
  decide

theorem close : Statement .close := by
  unfold Statement
  decide

end Sys2Proof.Laws.Selects
end

