-- ==== Sys2Proof/Tests/Slice0.lean ====
section
/-! SUPPORT. Tests: words, values and single steps written out from `spec/95_test_vectors.md` (V, P and L3 below are its
parts), and for every obligation with hypotheses a witness that meets them. Helpers build small states from the reset
state. -/

set_option Elab.async false

namespace Sys2Proof.Tests

open Sys2Proof.Machine

/-! ### Helpers -/

/-- The reset state in a mode, with the bus's next answers listed and empty histories. -/
def opened (m : Mode) (ws : List WriteAnswer) (rs : List ReadAnswer) : State :=
  { State.reset with mode := m, writeAnswers := ws.map some, readAnswers := rs.map some, log := [] }

/-- The reset state, CLOSED. -/
def shut (m : Mode) : State := { State.reset with lifecycle := .closed, mode := m }

/-- The state after a reset that found `BUS_INDEX` = 0 (P5). -/
def misconfigured : State :=
  { State.reset with lifecycle := .configError, config := { Config.example with busIndex := some 0 } }

/-- The next state of an outcome. -/
def after (o : Machine.Outcome) : Option State :=
  match o with
  | .next t => some t
  | .fault _ => none
  | .refused _ => none

/-- What an outcome leaves on the bus log and in `MODE`. -/
def traffic (o : Machine.Outcome) : Option (List BusEvent × Mode) :=
  (after o).map (fun t => (t.busLog, t.mode))

/-- The response of an outcome. -/
def reply (o : Machine.Outcome) : Option Response := (after o).bind (fun t => t.rsp)

/-- The code and detail of an outcome's response. -/
def verdict (o : Machine.Outcome) : Option (RspCode × Option Detail) := (reply o).map (fun r => (r.code, r.detail))

/-- The frame 66 66 93 80 00 A2 of V5, both words intact. -/
def goodFrame : List Byte := [0x66, 0x66, 0x93, 0x80, 0x00, 0xA2]

/-! ### Well-formedness: an ill-formed term for each check (R103, R104) -/

theorem test_wellFormed_rep : (Instr.singleShot 3).wellFormed = false := by decide
theorem test_wellFormed_rate : (Instr.startPeriodic 5 0).wellFormed = false := by decide
theorem test_wellFormed_periodic_rep : (Instr.startPeriodic 4 3).wellFormed = false := by decide
theorem test_wellFormed_ok : (Instr.startPeriodic 4 2).wellFormed = true := by decide

/-! ### Decoding, each word laid out field by field: OP, RATE, REP, RSVD, D0 to D5 (R101, R108) -/

/-- A word from its fields' bits, written out: 5 + 3 + 2 + 6 bits and six bytes. -/
def bits (op : BitVec 5) (rate : BitVec 3) (rep : BitVec 2) (rsvd : BitVec 6) (data : BitVec 48) : Request :=
  op ++ rate ++ rep ++ rsvd ++ data

theorem test_decode_crc8 : decodeRequest (bits 0b00001 0b000 0b00 0b000000 0xBEEF00000000) =
    .instr (.crc8 0xBE 0xEF) := by decide
theorem test_decode_validate : decodeRequest (bits 0b00010 0b000 0b00 0b000000 0x0000AC000000) =
    .instr (.validate 0x00 0x00 0xAC) := by decide
theorem test_decode_decode : decodeRequest (bits 0b00011 0b000 0b00 0b000000 0x6666938000A2) =
    .instr (.decode 0x66 0x66 0x93 0x80 0x00 0xA2) := by decide
theorem test_decode_singleShot : decodeRequest (bits 0b00100 0b000 0b10 0b000000 0) = .instr (.singleShot 2) := by
  decide
theorem test_decode_startPeriodic : decodeRequest (bits 0b00101 0b001 0b01 0b000000 0) =
    .instr (.startPeriodic 1 1) := by decide
theorem test_decode_readData : decodeRequest (bits 0b00110 0 0 0 0) = .instr .readData := by decide
theorem test_decode_fetch : decodeRequest (bits 0b00111 0 0 0 0) = .instr .fetch := by decide
theorem test_decode_startArt : decodeRequest (bits 0b01000 0 0 0 0) = .instr .startArt := by decide
theorem test_decode_stop : decodeRequest (bits 0b01001 0 0 0 0) = .instr .stop := by decide
theorem test_decode_softReset : decodeRequest (bits 0b01010 0 0 0 0) = .instr .softReset := by decide
theorem test_decode_status : decodeRequest (bits 0b01011 0 0 0 0) = .instr .status := by decide
theorem test_decode_checkStatus : decodeRequest (bits 0b01100 0 0 0 0) = .instr .checkStatus := by decide
theorem test_decode_serial : decodeRequest (bits 0b01101 0 0 0 0) = .instr .serial := by decide
theorem test_decode_heaterEn : decodeRequest (bits 0b01110 0 0 0 0) = .instr .heaterEn := by decide
theorem test_decode_heaterDis : decodeRequest (bits 0b01111 0 0 0 0) = .instr .heaterDis := by decide
theorem test_decode_clearStatus : decodeRequest (bits 0b10000 0 0 0 0) = .instr .clearStatus := by decide
theorem test_decode_close : decodeRequest (bits 0b10001 0 0 0 0) = .instr .close := by decide

/-- V8: the words that select nothing, each by the check it fails. -/
theorem test_decode_rejects :
    [0x0000000000000000, 0x9000000000000000, 0xF800000000000000, 0xFFFFFFFFFFFFFFFF].map decodeRequest =
      [.bad .badOp, .bad .badOp, .bad .badOp, .bad .badOp] ∧
    [0x2100000000000000, 0x2001000000000000, 0x3000000000000001, 0x3400000000000000, 0x8800000000000001,
     0x0801BEEF00000000, 0x18FF000000000000].map decodeRequest = List.replicate 7 (.bad .unusedField) := by decide

/-- V8: `legal`, the operand codes checked last. -/
theorem test_legal :
    [0x20C0000000000000, 0x2D00000000000000, 0x2F00000000000000, 0x28C0000000000000, 0x2BC0000000000000,
     0x2FC0000000000000, 0x2C80000000000000].map legal =
      [some .badRep, some .badRate, some .badRate, some .badRep, some .badRep, some .badRate, none] := by decide

/-- R112: the assembler's own example, and the text it stands for. -/
theorem test_encode_text :
    encode (.startPeriodic 1 1) = 0x2940000000000000 ∧ (Instr.startPeriodic 1 1).text = some "START_PERIODIC 1HZ, MEDIUM" ∧
    (Instr.crc8 0xBE 0xEF).text = some "CRC8 0xbe, 0xef" := by decide +kernel

/-- The table's words reach the decoder. -/
theorem test_decodeTableWord :
    decodeTableWord 64 0x2940000000000000 = some (.startPeriodic 1 1) ∧ decodeTableWord 64 0 = none := by decide

/-! ### The checksum (V1, R142) -/

theorem test_crc8_vectors :
    crc8 [0x00, 0x00] = 0x81 ∧ crc8 [0xBE, 0xEF] = 0x92 ∧ crc8 [0xFF, 0x00] = 0x00 ∧ crc8 [0xFF, 0xFF] = 0xAC ∧
    crc8 [0x84, 0x12] = 0x00 ∧ crc8 [0x12, 0x35] = 0x06 ∧ crc8 [0x00] = 0xAC := by decide +kernel

/-! ### Conversions (V3), dew points (V4), status words (V6), serial numbers (V7) -/

theorem test_temperature :
    [0, 1, 2, 374, 375, 16384, 16852, 16853, 24386, 26214, 32767, 65534, 65535].map temperatureC100 =
      [-4500, -4500, -4499, -4400, -4400, -125, 0, 0, 2012, 2500, 4250, 13000, 13000] := by decide +kernel

theorem test_humidity :
    [0, 3, 4, 5, 374, 16852, 16853, 24386, 26214, 49152, 65535].map humidityMilli =
      [1, 1, 10, 10, 570, 25710, 25720, 37210, 40000, 75000, 100000] := by decide +kernel

/-- V4: the two neighbours of 100 dp over water, at t = 0 (water) and over ice. -/
theorem test_dewPoint_neighbours :
    (⌊(dewEnclosure 2500 50000).lo⌋ = 1385 ∧ ⌈(dewEnclosure 2500 50000).hi⌉ = 1386) ∧
    (⌊(dewEnclosure 0 50000).lo⌋ = -921 ∧ ⌈(dewEnclosure 0 50000).hi⌉ = -920) ∧
    (⌊(dewEnclosure (-1) 50000).lo⌋ = -818 ∧ ⌈(dewEnclosure (-1) 50000).hi⌉ = -817) := by decide +kernel

/-- V4: the clamped humidity at the two ends of the temperature's branches. -/
theorem test_dewPoint_clamped :
    (⌊(dewEnclosure (-4500) 1).lo⌋ = -11323 ∧ ⌈(dewEnclosure (-4500) 1).hi⌉ = -11322) ∧
    (⌊(dewEnclosure 2000 1).lo⌋ = -8900 ∧ ⌈(dewEnclosure 2000 1).hi⌉ = -8899) := by decide +kernel

theorem test_statusFlags :
    [0x8000, 0x0001, 0x0010, 0x0800, 0x8010, 0x2000, 0xA413].map (statusFlags .msbIsBit0) =
      [0b0000001, 0b1000000, 0b0010000, 0b0000100, 0b0010001, 0b0000000, 0b1010001] ∧
    [0x8000, 0x0001, 0x0010, 0x0800, 0x8010, 0x2000, 0xA413].map (statusFlags .lsbIsBit0) =
      [0b1000000, 0b0000001, 0b0000100, 0b0010000, 0b1000100, 0b0100000, 0b1101111] := by decide +kernel

theorem test_deviations :
    deviations Config.example 0b0010001 = 0b0010001 ∧
    deviations { Config.example with statusDefaultRd := some true } 0b0010001 = 0b0010101 ∧
    deviations { Config.example with statusDefaultRd := some true } 0b0000100 = 0 := by decide +kernel

theorem test_serialOf :
    serialOf [0x12, 0x34, 0x37, 0x56, 0x78, 0x7D] = ⟨0x12345678, false, false⟩ ∧
    serialOf [0x12, 0x34, 0x00, 0x56, 0x78, 0x00] = ⟨0x12345678, true, true⟩ ∧
    serialOf [0xAB, 0xCD, 0x6F, 0x01, 0x00, 0x75] = ⟨0xABCD0100, false, false⟩ := by decide +kernel

/-- R33, R34, R280: the codes in which state and responses are observed. -/
theorem test_observation_codes :
    [Mode.idle, .singleShot, .periodic .hz05, .periodic .hz4, .acceleratedResponse].map modeCode =
      [0b00000, 0b00001, 0b00010, 0b01110, 0b00011] ∧
    [Lifecycle.opened, .closed, .configError].map lifecycleCode = [0, 1, 2] ∧
    rspCodeBits .transportError = 4 := by decide +kernel

/-! ### The configuration check (V10) -/

theorem test_configCheck :
    configCheck Config.example = none ∧
    configCheck { Config.example with busIndex := some 0 } = some .busUnavailable ∧
    configCheck { Config.example with busIndex := some 2, ct := { Config.exampleTable with stop := none } } =
      some .busUnavailable ∧
    configCheck { Config.example with busIndex := none } = some (.paramUnset .busIndex) ∧
    configCheck { Config.example with ct := { Config.exampleTable with
      stop := none, singleShot := ⟨some 0x2400, some 0x240B, none⟩ } } =
      some (.tableEntryMissing (.singleShot .low)) ∧
    configCheck { Config.example with statusDefaultRd := none } = some (.paramUnset .statusDefaultRd) := by decide +kernel

/-! ### Single operations (P1 to P5, V9) -/

theorem test_crc8 : reply (exec (.crc8 0xBE 0xEF) (opened .idle [] [])) = some ⟨.ok, none, .crc 0x92⟩ := by decide +kernel

theorem test_validate : reply (exec (.validate 0x00 0x00 0xAC) (opened .idle [] [])) =
    some ⟨.ok, none, .matched false⟩ := by decide +kernel

/-- P1 step 6: both words of a zero frame fail, temperature reported first. -/
theorem test_decode : (after (exec (.decode 0 0 0 0 0 0) (opened .idle [] []))).map State.sinkLog =
    some [.fault .protocolFault (.protocol .wordT) (.request 0x03),
      .fault .protocolFault (.protocol .wordRh) (.request 0x03)] := by decide +kernel

/-- P2 step 1. -/
theorem test_singleShot : traffic (exec (.singleShot 0) (opened .idle [.ack] [.data goodFrame])) =
    some ([.write 0x44 0x24 0x00 .ack, .settle 16000, .read 0x44 6 (.data goodFrame)], .idle) := by decide +kernel

/-- P2 step 5: three bytes for six. -/
theorem test_singleShot_short :
    verdict (exec (.singleShot 0) (opened .idle [.ack] [.data [0x66, 0x66, 0x93]])) =
      some (.transportError, some (.transport .io)) := by decide +kernel

/-- P3 step 1. -/
theorem test_startPeriodic : traffic (exec (.startPeriodic 1 1) (opened .idle [.ack] [])) =
    some ([.write 0x44 0x21 0x26 .ack, .settle 500], .periodic .hz1) := by decide +kernel

/-- P3 step 2. -/
theorem test_startPeriodic_conflict : verdict (exec (.startPeriodic 1 1) (opened (.periodic .hz1) [.ack] [])) =
    some (.usageFault, some (.usage .modeConflict)) := by decide +kernel

/-- P3 step 6: the humidity word fails; the Reading is kept. -/
theorem test_readData :
    ((after (exec .readData (opened (.periodic .hz1) [] [.data [0x66, 0x66, 0x93, 0x80, 0x00, 0x00]]))).bind
      (fun t => t.lastReading)).map (fun r => (r.tC100, r.rhM, r.tDeg, r.rhDeg, r.deg)) =
      some (2500, 50000, false, true, true) := by decide +kernel

/-- P3 step 9. -/
theorem test_readData_idle : verdict (exec .readData (opened .idle [] [])) =
    some (.usageFault, some (.usage .modeConflict)) := by decide +kernel

/-- P3 step 5. -/
theorem test_fetch : traffic (exec .fetch (opened (.periodic .hz1) [.ack] [])) =
    some ([.write 0x44 0xE0 0x00 .ack, .settle 500], .periodic .hz1) := by decide +kernel

/-- P4 step 1. -/
theorem test_startArt : traffic (exec .startArt (opened .idle [.ack] [])) =
    some ([.write 0x44 0x2B 0x32 .ack, .settle 500], .acceleratedResponse) := by decide +kernel

/-- P3 step 7. -/
theorem test_stop : traffic (exec .stop (opened (.periodic .hz1) [.ack] [])) =
    some ([.write 0x44 0x30 0x93 .ack, .settle 500], .idle) := by decide +kernel

/-- P3 step 8. -/
theorem test_stop_idle : traffic (exec .stop (opened .idle [] [])) = some ([], .idle) := by decide +kernel

/-- V9: the stop goes through, the reset command does not. -/
theorem test_softReset_second_fails :
    traffic (exec .softReset (opened .acceleratedResponse [.ack, .err .nack] [])) =
      some ([.write 0x44 0x30 0x93 .ack, .settle 500, .write 0x44 0x30 0xA2 (.err .nack)], .idle) := by decide +kernel

/-- V9: the stop fails; `MODE` stays and no reset command goes out. -/
theorem test_softReset_stop_fails : traffic (exec .softReset (opened .acceleratedResponse [.err .io] [])) =
    some ([.write 0x44 0x30 0x93 (.err .io)], .acceleratedResponse) := by decide +kernel

/-- P4 step 2. -/
theorem test_status : reply (exec .status (opened .idle [.ack] [.data [0x80, 0x10, 0xE1]])) =
    some ⟨.ok, none, .status ⟨0x8010, 0b0010001, false⟩⟩ := by decide +kernel

/-- P4b step 3: the Fault comes before the Warning. -/
theorem test_checkStatus :
    (after (exec .checkStatus { opened .idle [.ack] [.data [0x80, 0x10, 0x00]] with
      config := { Config.example with statusBitOrder := .lsbIsBit0, statusDefaultRd := some true } })).map
      State.sinkLog =
      some [.writeDone 0xF32D, .fault .protocolFault (.protocol .wordStatus) (.request 0x0C), .warning 6 true] := by
  decide +kernel

/-- P4 step 3: three warnings, a flag that is 0 where the default is 1 among them. -/
theorem test_checkStatus_warnings :
    (after (exec .checkStatus { opened .idle [.ack] [.data [0x80, 0x10, 0xE1]] with
      config := { Config.example with statusDefaultRd := some true } })).map State.sinkLog =
      some [.writeDone 0xF32D, .warning 0 true, .warning 2 false, .warning 4 true] := by decide +kernel

/-- V10, the last row: the first report is the response's detail. -/
theorem test_serial :
    reply (exec .serial (opened .idle [.ack] [.data [0x12, 0x34, 0x00, 0x56, 0x78, 0x00]])) =
      some ⟨.protocolFault, some (.protocol .wordSn0), .serial 0x12345678 true true⟩ := by decide +kernel

/-- P4 step 5. -/
theorem test_heaterEn : traffic (exec .heaterEn (opened .acceleratedResponse [.ack] [])) =
    some ([.write 0x44 0x30 0x6D .ack, .settle 500], .acceleratedResponse) := by decide +kernel

/-- P4 step 9. -/
theorem test_heaterDis : traffic (exec .heaterDis (opened .idle [.ack] [])) =
    some ([.write 0x44 0x30 0x66 .ack, .settle 500], .idle) := by decide +kernel

/-- P4 step 8. -/
theorem test_clearStatus : traffic (exec .clearStatus (opened .idle [.ack] [])) =
    some ([.write 0x44 0x30 0x41 .ack, .settle 500], .idle) := by decide +kernel

/-- P5 steps 4 and 6. -/
theorem test_close : (after (exec .close (opened .idle [] []))).map (fun t => t.lifecycle) = some .closed ∧
    verdict (exec .close (shut .idle)) = some (.ok, none) := by decide +kernel

/-- V10: priorities while CLOSED and in CONFIG_ERROR. -/
theorem test_priority :
    verdict (runRequest 0x29C0000000000000 (shut (.periodic .hz1))) =
      some (.invalidParameter, some (.invalidParameter .badRep)) ∧
    verdict (runRequest 0x2940000000000000 (shut (.periodic .hz1))) = some (.usageFault, some (.usage .closed)) ∧
    verdict (runRequest 0x8800000000000001 (shut .idle)) =
      some (.invalidParameter, some (.invalidParameter .unusedField)) ∧
    verdict (runRequest 0x8800000000000000 misconfigured) =
      some (.configurationError, some (.configuration .busUnavailable)) := by decide +kernel

/-- P5 step 3, as a step: a reset with `BUS_INDEX` = 1 opens the block again. -/
theorem test_step_reset :
    (after (step { misconfigured with inputs := [.reset Config.example], log := [] })).map
      (fun t => (t.lifecycle, t.log)) =
      some (.opened, [.bus .resetMark, .sink (.resetDone .opened)]) := by decide +kernel

/-- The step right after reset runs the word that is placed. -/
theorem test_step_withFetchWord :
    (after (step (State.reset.withFetchWord 64 0x0800BEEF00000000))).bind (fun t => t.rsp) =
      some ⟨.ok, none, .crc 0x92⟩ := by decide +kernel

/-! ### Witnesses: for each obligation with hypotheses, values that meet them all -/

/-- EncodeOfDecode. -/
theorem witness_encodeOfDecode : decodeRequest 0x2FC0000000000000 = .instr (.startPeriodic 7 3) := by decide

/-- WordSelectsByMaskAndMatch: the first and the last row, with a word that selects each, and one with the first row's
`OP` that does not select it. -/
theorem witness_wordSelects :
    (⟨0x01, "CRC8", 0x0800000000000000, 0xFFFF0000FFFFFFFF⟩ : OpRow) ∈ opRows ∧
    (0x0800BEEF00000000 : Request) &&& 0xFFFF0000FFFFFFFF = 0x0800000000000000 ∧
    opField 0x0801BEEF00000000 = 0x01 ∧ (0x0801BEEF00000000 : Request) &&& 0xFFFF0000FFFFFFFF ≠ 0x0800000000000000 ∧
    (⟨0x11, "CLOSE", 0x8800000000000000, 0xFFFFFFFFFFFFFFFF⟩ : OpRow) ∈ opRows ∧
    (0x8800000000000000 : Request) &&& 0xFFFFFFFFFFFFFFFF = 0x8800000000000000 := by decide

/-- IllegalWordsOnlyReport: each of the four details, an open and a closed block; and a word that ends so. -/
theorem witness_illegalWords :
    ((opened .idle [] []).held = true ∧ (opened .idle [] []).lifecycle ≠ .configError) ∧
    ((shut .idle).held = true ∧ (shut .idle).lifecycle ≠ .configError) ∧
    legal 0x9000000000000000 = some .badOp ∧ legal 0x8800000000000001 = some .unusedField ∧
    legal 0x2D00000000000000 = some .badRate ∧ legal 0x20C0000000000000 = some .badRep ∧
    verdict (runRequest 0x2FC0000000000000 (opened .idle [] [])) =
      some (.invalidParameter, some (.invalidParameter .badRate)) := by decide +kernel

/-- ChecksumDetectsOneWrongByte: two words that differ in both bytes and share their checksum (V1). -/
theorem witness_checksumDetects : crc8 [0xFF, 0x00] = crc8 [0x84, 0x12] := by decide +kernel

/-- ConversionsAreMonotone. -/
theorem witness_monotone : (16852 : BitVec 16).toNat ≤ (16853 : BitVec 16).toNat ∧ (3 : BitVec 16).toNat ≤ 3 := by decide

/-- DewPointIsNextToMagnus and DewPointAtSaturation: the two ends of both ranges. -/
theorem witness_dewPoint :
    ((-4500 : Int) ≤ -4500 ∧ (-4500 : Int) ≤ 13000 ∧ 1 ≤ 1 ∧ 1 ≤ 100000) ∧
    ((-4500 : Int) ≤ 13000 ∧ (13000 : Int) ≤ 13000 ∧ 1 ≤ 100000 ∧ 100000 ≤ 100000) := by decide

/-- DeviationsFollowDefault: both defaults. -/
theorem witness_deviations :
    Config.example.statusDefaultRd = some false ∧
    { Config.example with statusDefaultRd := some true }.statusDefaultRd = some true := by decide

/-- Crc8Completes, ValidateCompletes, DecodeRequestCompletes: every mode that is held. -/
theorem witness_open :
    (opened .idle [] []).Open ∧ (opened (.periodic .hz1) [] []).Open ∧ (opened .acceleratedResponse [] []).Open := by
  decide +kernel

/-- SingleShotCompletes: the three repeatabilities. -/
theorem witness_singleShot :
    let s := opened .idle [.ack] [.data goodFrame]
    s.Open ∧ s.mode = .idle ∧ s.nextWriteAnswer = some .ack ∧
    s.nextReadAnswer = some (.data [0x66, 0x66, 0x93, 0x80, 0x00, 0xA2]) ∧
    ∀ x ∈ [((0 : BitVec 2), Rep.high, 16000), (1, .medium, 7000), (2, .low, 5000)],
      x ∈ [((0 : BitVec 2), Rep.high, 16000), (1, .medium, 7000), (2, .low, 5000)] := by decide +kernel

/-- SingleShotTransportErrors: a failed write, a failed read, a read one byte short. -/
theorem witness_singleShot_errors :
    ((opened .idle [.err .nack] []).Open ∧ (opened .idle [.err .nack] []).mode = .idle ∧
      repOfCode 1 = some .medium ∧ (opened .idle [.err .nack] []).nextWriteAnswer = some (.err .nack)) ∧
    ((opened .idle [.ack] [.err .timeout]).Open ∧
      (opened .idle [.ack] [.err .timeout]).nextWriteAnswer = some .ack ∧
      (opened .idle [.ack] [.err .timeout]).nextReadAnswer = some (.err .timeout)) ∧
    ((opened .idle [.ack] [.data [1, 2, 3, 4, 5]]).Open ∧
      (opened .idle [.ack] [.data [1, 2, 3, 4, 5]]).nextReadAnswer = some (.data [1, 2, 3, 4, 5]) ∧
      ([1, 2, 3, 4, 5] : List Byte).length ≠ 6) := by decide +kernel

/-- StartPeriodicCompletes and StartArtCompletes: an acknowledged and a failed write. -/
theorem witness_modeEntry :
    ((opened .idle [.ack] []).Open ∧ (opened .idle [.ack] []).mode = .idle ∧
      (opened .idle [.ack] []).nextWriteAnswer = some .ack) ∧
    ((opened .idle [.err .io] []).Open ∧ (opened .idle [.err .io] []).mode = .idle ∧
      (opened .idle [.err .io] []).nextWriteAnswer = some (.err .io)) ∧
    rateOfCode 4 = some .hz10 ∧ repOfCode 2 = some .low := by decide +kernel

/-- ReadDataCompletes: six bytes, a failed read, a read one byte long. -/
theorem witness_readData :
    ((opened (.periodic .hz1) [] [.data goodFrame]).Open ∧
      (opened (.periodic .hz1) [] [.data goodFrame]).mode = .periodic .hz1 ∧
      (opened (.periodic .hz1) [] [.data goodFrame]).nextReadAnswer =
        some (.data [0x66, 0x66, 0x93, 0x80, 0x00, 0xA2])) ∧
    ((opened .acceleratedResponse [] [.err .nack]).Open ∧
      (opened .acceleratedResponse [] [.err .nack]).mode = .acceleratedResponse ∧
      (opened .acceleratedResponse [] [.err .nack]).nextReadAnswer = some (.err .nack)) ∧
    ((opened .acceleratedResponse [] [.data [9]]).nextReadAnswer = some (.data [9]) ∧
      ([9] : List Byte).length ≠ 6) := by decide +kernel

/-- FetchCompletes: an acknowledged and a failed write while sampling. -/
theorem witness_fetch :
    ((opened (.periodic .hz05) [.ack] []).Open ∧ (opened (.periodic .hz05) [.ack] []).mode = .periodic .hz05 ∧
      (opened (.periodic .hz05) [.ack] []).nextWriteAnswer = some .ack) ∧
    ((opened .acceleratedResponse [.err .io] []).Open ∧
      (opened .acceleratedResponse [.err .io] []).mode = .acceleratedResponse ∧
      (opened .acceleratedResponse [.err .io] []).nextWriteAnswer = some (.err .io)) := by decide +kernel

/-- StopCompletes: Idle, an acknowledged and a failed stop. -/
theorem witness_stop :
    ((opened .idle [] []).Open ∧ (opened .idle [] []).mode = .idle) ∧
    ((opened (.periodic .hz1) [.ack] []).Open ∧ (opened (.periodic .hz1) [.ack] []).mode ≠ .idle ∧
      (opened (.periodic .hz1) [.ack] []).nextWriteAnswer = some .ack) ∧
    ((opened .acceleratedResponse [.err .nack] []).Open ∧ (opened .acceleratedResponse [.err .nack] []).mode ≠ .idle ∧
      (opened .acceleratedResponse [.err .nack] []).nextWriteAnswer = some (.err .nack)) := by decide +kernel

/-- SoftResetCompletes: its five cases. -/
theorem witness_softReset :
    ((opened .idle [.ack] []).Open ∧ (opened .idle [.ack] []).nextWriteAnswer = some .ack) ∧
    ((opened (.periodic .hz1) [.ack, .ack] []).Open ∧
      (opened (.periodic .hz1) [.ack, .ack] []).nextWriteAnswer = some .ack ∧
      (opened (.periodic .hz1) [.ack, .ack] []).consumeWrite.nextWriteAnswer = some .ack) ∧
    ((opened .acceleratedResponse [.err .io] []).Open ∧
      (opened .acceleratedResponse [.err .io] []).nextWriteAnswer = some (.err .io)) ∧
    ((opened .acceleratedResponse [.ack, .err .nack] []).nextWriteAnswer = some .ack ∧
      (opened .acceleratedResponse [.ack, .err .nack] []).consumeWrite.nextWriteAnswer = some (.err .nack)) ∧
    ((opened .idle [.err .nack] []).Open ∧ (opened .idle [.err .nack] []).nextWriteAnswer = some (.err .nack)) := by
  decide +kernel

/-- StatusCompletes and CheckStatusCompletes. -/
theorem witness_status :
    let s := opened .idle [.ack] [.data [0x80, 0x10, 0xE1]]
    s.Open ∧ s.nextWriteAnswer = some .ack ∧ s.nextReadAnswer = some (.data [0x80, 0x10, 0xE1]) := by decide +kernel

/-- SerialCompletes. -/
theorem witness_serial :
    let s := opened .idle [.ack] [.data [0x12, 0x34, 0x37, 0x56, 0x78, 0x7D]]
    s.Open ∧ s.nextWriteAnswer = some .ack ∧ s.nextReadAnswer = some (.data [0x12, 0x34, 0x37, 0x56, 0x78, 0x7D]) := by
  decide +kernel

/-- DeviceReadTransportErrors: a failed command, a failed read, six bytes for the status word's three. -/
theorem witness_deviceReadErrors :
    ((opened .idle [.err .nack] []).Open ∧ (opened .idle [.err .nack] []).nextWriteAnswer = some (.err .nack)) ∧
    ((opened .idle [.ack] [.err .io]).Open ∧ (opened .idle [.ack] [.err .io]).nextWriteAnswer = some .ack ∧
      (opened .idle [.ack] [.err .io]).nextReadAnswer = some (.err .io)) ∧
    ((opened .idle [.ack] [.data goodFrame]).nextReadAnswer = some (.data goodFrame) ∧ goodFrame.length ≠ 3) ∧
    (Instr.serial, CtKey.serialNumber, 6) ∈
      [(Instr.status, CtKey.status, 3), (.checkStatus, .status, 3), (.serial, .serialNumber, 6)] := by decide +kernel

/-- HeaterAndClearStatusComplete: an acknowledged and a failed write; the three instructions are in the list. -/
theorem witness_heater :
    ((opened .idle [.ack] []).Open ∧ (opened .idle [.ack] []).nextWriteAnswer = some .ack) ∧
    ((opened .idle [.err .io] []).Open ∧ (opened .idle [.err .io] []).nextWriteAnswer = some (.err .io)) ∧
    ∀ x ∈ [(Instr.heaterEn, CtKey.heaterEnable), (.heaterDis, .heaterDisable), (.clearStatus, .clearStatus)],
      x ∈ [(Instr.heaterEn, CtKey.heaterEnable), (.heaterDis, .heaterDisable), (.clearStatus, .clearStatus)] := by
  decide +kernel

/-- CloseCompletes and BadOperandCodesAreInvalid: an open and a closed block, rates on both sides of the bound. -/
theorem witness_notConfigError :
    ((opened .idle [] []).held = true ∧ (opened .idle [] []).lifecycle ≠ .configError) ∧
    ((shut .idle).held = true ∧ (shut .idle).lifecycle ≠ .configError) ∧
    4 < (5 : BitVec 3).toNat ∧ (4 : BitVec 3).toNat ≤ 4 := by decide +kernel

/-- ModeConflictsAreRefused: a mode entry while sampling, and READ_DATA in Idle. -/
theorem witness_modeConflicts :
    ((opened (.periodic .hz1) [] []).Open ∧ (opened (.periodic .hz1) [] []).mode ≠ .idle ∧
      (Instr.startPeriodic 0 0).wellFormed = true ∧ (Instr.singleShot 2).wellFormed = true ∧
      Instr.startArt.wellFormed = true) ∧
    ((opened .idle [] []).Open ∧ (opened .idle [] []).mode = .idle ∧ Instr.readData.wellFormed = true ∧
      Instr.fetch.wellFormed = true) := by decide +kernel

/-- ClosedRefusesAllButClose. -/
theorem witness_closed :
    (shut (.periodic .hz1)).held = true ∧ (shut (.periodic .hz1)).lifecycle = .closed ∧
    Instr.stop.wellFormed = true ∧ Instr.stop ≠ .close := by decide +kernel

/-- ConfigErrorRefusesEveryWord. -/
theorem witness_configError : misconfigured.held = true ∧ misconfigured.lifecycle = .configError := by decide +kernel

/-- SilentBusIsStuck: silence at the first write (Idle and sampling), at READ_DATA's read, at SOFT_RESET's second write
and at the read after an acknowledged command. -/
theorem witness_silentBus :
    ({ opened .idle [] [] with writeAnswers := [none] }.Open ∧
      { opened .idle [] [] with writeAnswers := [none] }.nextWriteAnswer = none ∧
      (Instr.startPeriodic 0 0).wellFormed = true) ∧
    ({ opened (.periodic .hz1) [] [] with writeAnswers := [none] }.Open ∧
      { opened (.periodic .hz1) [] [] with writeAnswers := [none] }.nextWriteAnswer = none) ∧
    ({ opened (.periodic .hz1) [] [] with readAnswers := [none] }.Open ∧
      { opened (.periodic .hz1) [] [] with readAnswers := [none] }.nextReadAnswer = none) ∧
    ({ opened (.periodic .hz1) [] [] with writeAnswers := [some .ack, none] }.Open ∧
      { opened (.periodic .hz1) [] [] with writeAnswers := [some .ack, none] }.nextWriteAnswer = some .ack ∧
      { opened (.periodic .hz1) [] [] with writeAnswers := [some .ack, none] }.consumeWrite.nextWriteAnswer = none) ∧
    ({ opened .idle [.ack] [] with readAnswers := [none] }.Open ∧
      { opened .idle [.ack] [] with readAnswers := [none] }.nextWriteAnswer = some .ack ∧
      { opened .idle [.ack] [] with readAnswers := [none] }.nextReadAnswer = none) := by decide +kernel

/-- EveryFaultIsFlagged, EveryRequestGetsOneResponse, BusTrafficStaysInItsRow, EveryTransactionGoesToBusAddr,
HistoriesAreNeverRead and HiddenElementsAreNeverRead: an operation that ends, with bus traffic and a reported fault. -/
theorem witness_next : Config.example.ct.busAddress = some 0x44 ∧
    (after (exec (.singleShot 0) (opened .idle [.ack] [.data [0, 0, 0, 0, 0, 0]]))).isSome = true := by
  decide +kernel

/-- TransportErrorEndsAtItsTransaction. -/
theorem witness_transportError :
    (after (exec .stop (opened (.periodic .hz1) [.err .nack] []))).map (fun t => t.rsp.map Response.detail) =
      some (some (some (.transport .nack))) := by decide +kernel

/-- RejectedRequestsTouchNoBus: one of each of the three codes. -/
theorem witness_rejected :
    (reply (exec .stop misconfigured)).map (fun r => r.code) = some .configurationError ∧
    (reply (exec (.singleShot 3) (opened .idle [] []))).map (fun r => r.code) = some .invalidParameter ∧
    (reply (exec .fetch (opened .idle [] []))).map (fun r => r.code) = some .usageFault := by decide +kernel

/-- OnlyCloseWritesLifecycle: both outcomes occur. -/
theorem witness_lifecycle :
    (after (exec .close (opened .idle [] []))).map (fun t => t.lifecycle) = some .closed ∧
    (after (exec .stop (opened .idle [] []))).map (fun t => t.lifecycle) = some .opened := by decide +kernel

/-- OnlyModeOperationsWriteMode: an operation that is none of the five. -/
theorem witness_otherOperation :
    (after (exec .heaterEn (opened (.periodic .hz1) [.ack] []))).isSome = true ∧
    (∀ rep, Instr.heaterEn ≠ .singleShot rep) ∧ (∀ rate rep, Instr.heaterEn ≠ .startPeriodic rate rep) ∧
    Instr.heaterEn ≠ .startArt ∧ Instr.heaterEn ≠ .stop ∧ Instr.heaterEn ≠ .softReset := by decide +kernel

/-- ModeFollowsItsArrows: an arrow into and one out of each sampling mode. -/
theorem witness_arrows :
    (after (exec (.startPeriodic 4 0) (opened .idle [.ack] []))).map (fun t => t.mode) = some (.periodic .hz10) ∧
    (after (exec .startArt (opened .idle [.ack] []))).map (fun t => t.mode) = some .acceleratedResponse ∧
    (after (exec .stop (opened (.periodic .hz10) [.ack] []))).map (fun t => t.mode) = some .idle ∧
    (after (exec .softReset (opened .acceleratedResponse [.ack, .ack] []))).map (fun t => t.mode) = some .idle := by
  decide +kernel

/-- OnlyFrameReadsWriteLastReading: a read that writes it, and one that fails and does not. -/
theorem witness_lastReading :
    (after (exec .readData (opened (.periodic .hz1) [] [.data goodFrame]))).map (fun t => t.lastReading.isSome) =
      some true ∧
    (after (exec .readData (opened (.periodic .hz1) [] [.err .io]))).map (fun t => t.lastReading.isSome) =
      some false := by decide +kernel

/-- StepRunsTheDecodedInstruction: an accepted word that decodes and one that does not, a word that waits, and no move. -/
theorem witness_step :
    ((State.reset.offer 0x8800000000000000).inputs = .request 0x8800000000000000 :: [] ∧
      (State.reset.offer 0x8800000000000000).reqReady = true ∧ decodeRequest 0x8800000000000000 = .instr .close) ∧
    ((State.reset.offer 0x9000000000000000).inputs = .request 0x9000000000000000 :: [] ∧
      (State.reset.offer 0x9000000000000000).reqReady = true ∧ decodeRequest 0x9000000000000000 = .bad .badOp) ∧
    ({ State.reset.offer 0x8800000000000000 with reqReady := false }.inputs = .request 0x8800000000000000 :: [] ∧
      { State.reset.offer 0x8800000000000000 with reqReady := false }.reqReady = false) ∧
    State.reset.inputs = [] := by decide +kernel

/-- P1 step 5, as a step: an offered word with an undefined operation code is refused with BAD_OP. -/
theorem test_step_badOp :
    (after (step (State.reset.withFetchWord 64 0x9000000000000000))).bind (fun t => t.rsp) =
      some ⟨.invalidParameter, some (.invalidParameter .badOp), .empty⟩ := by decide +kernel

/-- ResetLeavesItsValues and ResetDuringRequestHasNoMove. -/
theorem witness_reset :
    ({ State.reset with inputs := [.reset Config.example] }.inputs = .reset Config.example :: [] ∧
      { State.reset with inputs := [.reset Config.example] }.reqReady = true) ∧
    { State.reset with inputs := [.reset Config.example], reqReady := false }.reqReady = false := by decide +kernel

/-- An open state with an empty past, but for the reset's own mark, meets the invariant. -/
theorem inv_of_fresh {s : State} (hh : s.held = true) (hr : s.reqReady = true) (hl : s.lifecycle = .opened)
    (hread : s.lastReading = none) (hlog : s.rspLog = []) (hrsp : s.rsp = none) (hbus : s.busLog = [.resetMark]) :
    s.Inv where
  held := hh
  ready := hr
  configError := by simp [hl]
  reading := by simp [hread]
  responses := by simp [hlog]
  port := .inl hrsp
  settled := by rw [hbus]; rfl

/-- StepOnlyAppends, StepKeepsInvariant: a state that meets the invariant and steps, by a command and by a reset. -/
theorem witness_inv_steps :
    (∃ s : State, s.Inv ∧ (after (step s)).isSome = true ∧
      (after (step s)).map (fun t => t.busLog) =
        some [.resetMark, .write 0x44 0x30 0x6D .ack, .settle 500]) ∧
    (∃ s : State, s.Inv ∧ (after (step s)).map (fun t => t.lifecycle) = some .configError) := by
  constructor
  · refine ⟨{ State.reset.offer 0x7000000000000000 with writeAnswers := [some .ack] }, ?_, by decide +kernel,
      by decide +kernel⟩
    exact inv_of_fresh (by decide +kernel) rfl rfl rfl rfl rfl rfl
  · refine ⟨{ State.reset with inputs := [.reset { Config.example with busIndex := none }] }, ?_, by decide +kernel⟩
    exact inv_of_fresh (by decide +kernel) rfl rfl rfl rfl rfl rfl

/-- SettleStandsBetweenTransactions: a history with an acknowledged Write and a transaction after it. -/
theorem witness_settled :
    ∃ s : State, s.Inv ∧ (after (step s)).map (fun t => t.busLog) =
      some ([.resetMark] ++ [.write 0x44 0xF3 0x2D .ack] ++ [.settle 500] ++
        [.read 0x44 3 (.data [0x80, 0x10, 0xE1])] ++ []) ∧
      (BusEvent.read 0x44 3 (.data [0x80, 0x10, 0xE1])).isRead = true := by
  refine ⟨{ State.reset.offer 0x5800000000000000 with
    writeAnswers := [some .ack], readAnswers := [some (.data [0x80, 0x10, 0xE1])] }, ?_, by decide +kernel, rfl⟩
  exact inv_of_fresh (by decide +kernel) rfl rfl rfl rfl rfl rfl

end Sys2Proof.Tests
end

section
/-! SUPPORT. What one step does with the move at hand (R47, R109; assumptions 3, 5, 7), and the statement of scope
that says it. -/

namespace Sys2Proof.Machine

theorem runRequest_of_instr {w : Request} {i : Instr} (s : State) (h : decodeRequest w = .instr i) :
    runRequest w s = exec i s := by
  simp only [runRequest, h]

theorem runRequest_of_bad {w : Request} {d : ParamDetail} (s : State) (h : decodeRequest w = .bad d) :
    runRequest w s = rejectRequest (opField w) d s := by
  simp only [runRequest, h]

theorem step_of_no_move {s : State} (h : s.inputs = []) : step s = .next s := by
  simp only [step, takeMove, h]

theorem step_of_request_busy {s : State} {w : Request} {rest : List HostMove} (h : s.inputs = .request w :: rest)
    (hr : s.reqReady = false) : step s = .next s := by
  simp [step, takeMove, h, hr]

theorem step_of_request_ready {s : State} {w : Request} {rest : List HostMove} (h : s.inputs = .request w :: rest)
    (hr : s.reqReady = true) : step s = betweenOperations (runRequest w (s.accept rest)) := by
  simp [step, takeMove, h, hr]

/-- Settles O53: an equation of `step` for each of its three moves, and one of `runRequest` for each of the decoder's
two answers. -/
theorem stepRunsTheDecodedInstruction : Obligations.StepRunsTheDecodedInstruction := by
  intro s
  refine ⟨fun w rest h hr => ⟨fun i hi => ?_, fun d hd => ?_, ?_⟩, ?_, step_of_no_move⟩
  · exact runRequest_of_instr _ hi
  · exact runRequest_of_bad _ hd
  · exact step_of_request_ready h hr
  · exact fun w rest => step_of_request_busy

end Sys2Proof.Machine
end

section
/-! SUPPORT. What an operation can do, said once for all 17: a small logic of `Flow`s, the frame that every statement of
the pseudocode keeps, and the elements outside the frame that an operation may write, as cases (R33, R36, R37, R44,
R46). -/

namespace Sys2Proof.Machine

/-! ### What a flow leaves behind -/

/-- Where a flow goes, it goes to what `Go` says, where it raises to what `Raise` says; and it hangs only where the bus
does not answer (`answers` is false). -/
def Flow.Meets {α : Type} (answers : Bool) (Go : α → State → Prop) (Raise : Detail → State → Prop) : Flow α → Prop
  | .go a u => Go a u
  | .raise d u => Raise d u
  | .never => answers = false

section
variable {α β : Type} {b : Bool} {f : Flow α} {P P' : α → State → Prop} {E E' : Detail → State → Prop}

theorem Flow.Meets.bind {Q : β → State → Prop} {k : α → State → Flow β} (h : f.Meets b P E)
    (hk : ∀ a u, P a u → (k a u).Meets b Q E) : (f.bind k).Meets b Q E := by
  cases f with
  | go a u => exact hk a u h
  | raise d u => exact h
  | never => exact h

theorem Flow.Meets.mono (h : f.Meets b P E) (hP : ∀ a u, P a u → P' a u) (hE : ∀ d u, E d u → E' d u) :
    f.Meets b P' E' := by
  cases f with
  | go a u => exact hP a u h
  | raise d u => exact hE d u h
  | never => exact h

theorem Flow.Meets.onRaise {w : State → State} (h : f.Meets b P E) (hE : ∀ d u, E d u → E' d (w u)) :
    (f.onRaise w).Meets b P E' := by
  cases f with
  | go a u => exact h
  | raise d u => exact hE d u h
  | never => exact h

end

/-! ### Settled histories (R325) -/

theorem Settled.append {a b : List BusEvent} (ha : Settled a) (hb : Settled b) : Settled (a ++ b) := by
  unfold Settled at *
  rw [List.foldl_append, ha, hb]

theorem settled_nil : Settled [] := rfl

theorem settled_commandEvents (cfg : Config) (key : CtKey) (us : Nat) :
    Settled (busEvents (commandEvents cfg key us)) := rfl

theorem settled_failedCommand (cfg : Config) (key : CtKey) (e : BusError) :
    Settled (busEvents (failedCommand cfg key e)) := rfl

theorem settled_readEvents (cfg : Config) (n : Nat) (a : ReadAnswer) : Settled (busEvents (readEvents cfg n a)) := rfl

/-! ### The frame of every statement -/

/-- `u` is `s` but for the histories, which have grown by events that leave no Write waiting for its Settle, the hidden
elements, and the bus answers taken meanwhile. -/
structure Extends (s u : State) : Prop where
  lifecycle : u.lifecycle = s.lifecycle
  mode : u.mode = s.mode
  lastReading : u.lastReading = s.lastReading
  config : u.config = s.config
  rspLog : u.rspLog = s.rspLog
  log : ∃ es, u.log = s.log ++ es ∧ Settled (busEvents es)
  answers : s.busAnswers = true → u.busAnswers = true

section
variable {s u : State}

theorem Extends.refl (s : State) : Extends s s :=
  ⟨rfl, rfl, rfl, rfl, rfl, ⟨[], (List.append_nil _).symm, settled_nil⟩, id⟩

theorem Extends.append (h : Extends s u) {es : List LogEvent} (he : Settled (busEvents es)) :
    Extends s (u.append es) := by
  obtain ⟨l, hl, hs⟩ := h.log
  exact { h with log := ⟨l ++ es, by simp [hl], by simpa using hs.append he⟩ }

theorem Extends.report (h : Extends s u) (op : OpCode) (ws : List WordName) : Extends s (u.report op ws) := by
  have he : busEvents (ws.map fun w => faultEvent op (.protocol w)) = [] := busEvents_reportEvents op ws
  exact h.append (by rw [he]; exact settled_nil)

theorem Extends.consumeWrite (h : Extends s u) : Extends s u.consumeWrite :=
  { h with answers := fun hb => busAnswers_consumeWrite u (h.answers hb) }

theorem Extends.consumeRead (h : Extends s u) : Extends s u.consumeRead :=
  { h with answers := fun hb => busAnswers_consumeRead u (h.answers hb) }

theorem Extends.checksum (h : Extends s u) (bs : List Byte) : Extends s (u.checksum bs) := { h with }

theorem Extends.fillFrame (h : Extends s u) (bs : List Byte) : Extends s (u.fillFrame bs) := { h with }

theorem Extends.setMode (h : Extends s u) (m : Mode) : Extends (s.setMode m) (u.setMode m) := { h with mode := rfl }

theorem Extends.setLifecycle (h : Extends s u) (l : Lifecycle) : Extends (s.setLifecycle l) (u.setLifecycle l) :=
  { h with lifecycle := rfl }

/-- `MODE` written on the way and written back at the end is unchanged (R204). -/
theorem Extends.restoreMode {m m' : Mode} (h : Extends (s.setMode m') u) (hm : s.mode = m) :
    Extends s (u.setMode m) := { h with mode := hm.symm }

theorem Extends.keepReading (h : Extends s u) (bs : List Byte) :
    Extends (s.setLastReading (decodeFrame u.config.numerics bs)) (keepReading bs u) :=
  { h with lastReading := rfl }

end

/-! ### The flows that keep the frame -/

/-- Wherever a flow that began in `s` gets, the frame is kept. -/
abbrev Flow.Keeps {α : Type} (s : State) (f : Flow α) : Prop :=
  f.Meets s.busAnswers (fun _ => Extends s) (fun _ => Extends s)

section
variable {s u : State}

theorem command_keeps (key : CtKey) (us : Nat) (h : Extends s u) : (command key us u).Keeps s := by
  obtain ⟨-, e⟩ | ⟨err, -, e⟩ | ⟨hn, e⟩ := command_cases key us u <;> rw [e]
  · exact h.consumeWrite.append (settled_commandEvents ..)
  · exact h.consumeWrite.append (settled_failedCommand ..)
  · have hu := busAnswers_of_nextWriteAnswer_none hn
    exact Bool.eq_false_iff.mpr fun hs => by simp [h.answers hs] at hu

theorem busRead_keeps (n : Nat) (h : Extends s u) : (busRead n u).Keeps s := by
  obtain ⟨bs, -, -, e⟩ | ⟨a, err, -, -, e⟩ | ⟨hn, e⟩ := busRead_cases n u <;> rw [e]
  · exact (h.consumeRead.append (settled_readEvents ..)).fillFrame bs
  · exact h.consumeRead.append (settled_readEvents ..)
  · have hu := busAnswers_of_nextReadAnswer_none hn
    exact Bool.eq_false_iff.mpr fun hs => by simp [h.answers hs] at hu

theorem commandOnly_keeps (key : CtKey) (h : Extends s u) : (commandOnly key u).Keeps s :=
  (command_keeps key _ h).bind fun _ _ ht => ht

theorem readStatus_keeps (op : OpCode) (h : Extends s u) : (readStatus op u).Keeps s :=
  (command_keeps _ _ h).bind fun _ _ ht =>
    (busRead_keeps 3 ht).bind fun _ _ hv => (hv.checksum _).report op _

/-- The stop leaves `MODE` Idle when it goes on, and as it was when it raises (R209). -/
theorem stopSampling_meets (s : State) :
    (stopSampling s).Meets s.busAnswers (fun _ => Extends (s.setMode .idle)) (fun _ => Extends s) := by
  unfold stopSampling
  split
  · next h => exact { Extends.refl s with mode := h }
  · exact (command_keeps _ _ (Extends.refl s)).bind fun _ _ ht => ht.setMode .idle

end

/-! ### Readings and responses are well formed -/

theorem makeReading_ok (numerics : Nat) (t rh : BitVec 16 × Bool) : (makeReading numerics t rh).Ok := by
  have ht := t.1.isLt
  have hrh := rh.1.isLt
  refine ⟨rfl, ?_, ?_, rfl, ?_, rfl⟩ <;> simp only [makeReading]
  · rw [temperatureC100_eq]; omega
  · rw [temperatureC100_eq]; omega
  · by_cases h : rh.1.toNat ≤ 3
    · exact .inl (humidityMilli_of_low h)
    · rw [humidityMilli_of_high (by omega)]; omega

theorem responseOf_ok (a : Answer) : (responseOf a).Ok := by
  obtain ⟨p, ws⟩ := a
  cases ws <;> simp [responseOf, Response.Ok, detailCode]

theorem raisedResponse_ok (d : Detail) : Response.Ok ⟨detailCode d, some d, .empty⟩ := by
  cases d <;> simp [Response.Ok, detailCode]

/-! ### What an operation may write outside the frame -/

/-- The operations that read a measurement frame into `LAST_READING` (R37). -/
def readsFrame : Instr → Bool
  | .singleShot _ | .readData => true
  | .crc8 _ _ | .validate _ _ _ | .decode _ _ _ _ _ _ | .startPeriodic _ _ | .fetch | .startArt | .stop => false
  | .softReset | .status | .checkStatus | .serial | .heaterEn | .heaterDis | .clearStatus | .close => false

theorem readsFrame_iff (i : Instr) : readsFrame i = true ↔ (∃ rep, i = .singleShot rep) ∨ i = .readData := by
  cases i <;> simp [readsFrame]

/-- The arrows of `MODE` as they stand between two requests (R200): operation, mode before, mode after. -/
inductive ModeArrow : Instr → Mode → Mode → Prop
  | startPeriodic {rate : BitVec 3} {rep : BitVec 2} {r : Rate} (h : rateOfCode rate = some r) :
      ModeArrow (.startPeriodic rate rep) .idle (.periodic r)
  | startArt : ModeArrow .startArt .idle .acceleratedResponse
  | stop (m : Mode) : ModeArrow .stop m .idle
  | softReset (m : Mode) : ModeArrow .softReset m .idle

/-- `s'` is `s` with what the operation of `i` writes of `LIFECYCLE`, `MODE` and `LAST_READING` when it ends with this
payload: nothing, or in a configured block one arrow's `MODE`, or the Reading it responds with, or CLOSED. -/
inductive Writes (i : Instr) (s : State) : Payload → State → Prop
  | nothing {p : Payload} (h : readsFrame i = true → ∀ r, p ≠ .reading r) : Writes i s p s
  | mode {m : Mode} (hl : s.lifecycle ≠ .configError) (h : ModeArrow i s.mode m) : Writes i s .empty (s.setMode m)
  | reading {r : Reading} (hl : s.lifecycle ≠ .configError) (hi : readsFrame i = true) (h : r.Ok) :
      Writes i s (.reading r) (s.setLastReading r)
  | close (hl : s.lifecycle ≠ .configError) (h : i = .close) : Writes i s .empty (s.setLifecycle .closed)

/-- The operation of `i` that began in `s` is about to respond in `u` with this payload. -/
def Done (i : Instr) (s : State) (p : Payload) (u : State) : Prop := ∃ s', Writes i s p s' ∧ Extends s' u

/-- However the statements of `i` that began in `s` come to their end, they wrote what they may. -/
abbrev Flow.Completes (i : Instr) (s : State) (f : Flow Answer) : Prop :=
  f.Meets s.busAnswers (fun a => Done i s a.payload) (fun _ => Done i s .empty)

section
variable {i : Instr} {s u : State}

theorem Done.of_extends {p : Payload} (h : Extends s u) (hi : readsFrame i = true → ∀ r, p ≠ .reading r) :
    Done i s p u := ⟨s, .nothing hi, h⟩

theorem Done.empty_of_extends (h : Extends s u) : Done i s .empty u := .of_extends h fun _ _ => Payload.noConfusion

/-- A raise that kept the frame ends the operation with nothing written. -/
theorem raise_done {α : Type} {b : Bool} {f : Flow α} {P : α → State → Prop}
    (h : f.Meets b P fun _ => Extends s) : f.Meets b P fun _ => Done i s .empty :=
  h.mono (fun _ _ hp => hp) fun _ _ => .empty_of_extends

/-- Statements that keep the frame are a whole operation that reads no frame. -/
theorem Flow.Keeps.completes {f : Flow Answer} (h : f.Keeps s) (hi : readsFrame i = false) : f.Completes i s :=
  h.mono (fun _ _ hu => .of_extends hu (by simp [hi])) (fun _ _ => .empty_of_extends)

theorem decodeFrame_ok (numerics : Nat) (bs : List Byte) : (decodeFrame numerics bs).Ok := makeReading_ok ..

/-- SINGLE_SHOT's own mode does not outlive it: it began in Idle and leaves `MODE` Idle on every way out (R204, R35). -/
theorem singleShotBody_completes (rep : BitVec 2) (p : Rep) (hl : s.lifecycle ≠ .configError) :
    (singleShotBody p s).Completes (.singleShot rep) s := by
  unfold singleShotBody
  split
  · exact .empty_of_extends (.refl s)
  · next hm =>
    have hm : s.mode = .idle := not_not.mp hm
    refine Flow.Meets.onRaise (E := fun _ => Extends (s.setMode .singleShot)) ?_
      fun _ _ hu => .empty_of_extends (hu.restoreMode hm)
    refine (command_keeps _ _ (.refl (s.setMode .singleShot))).bind fun _ t ht => ?_
    refine (busRead_keeps 6 ht).bind fun bs u hu => ?_
    exact ⟨_, .reading hl rfl (decodeFrame_ok ..),
      ((hu.keepReading bs).restoreMode (s := s.setLastReading _) hm).report _ _⟩

theorem startPeriodicBody_completes {rate : BitVec 3} {r : Rate} (rep : BitVec 2) (p : Rep)
    (hr : rateOfCode rate = some r) (hl : s.lifecycle ≠ .configError) :
    (startPeriodicBody r p s).Completes (.startPeriodic rate rep) s := by
  unfold startPeriodicBody
  split
  · exact .empty_of_extends (.refl s)
  · next hm =>
    have hm : s.mode = .idle := not_not.mp hm
    exact (raise_done (command_keeps _ _ (.refl s))).bind fun _ _ ht =>
      ⟨_, .mode hl (hm ▸ .startPeriodic hr), ht.setMode _⟩

theorem readDataBody_completes (hl : s.lifecycle ≠ .configError) :
    ((busRead 6 s).bind fun bs u =>
      answerReading 0x06 (decodeFrame u.config.numerics bs) (keepReading bs u)).Completes .readData s :=
  (raise_done (busRead_keeps 6 (.refl s))).bind fun bs _ hu =>
    ⟨_, .reading hl rfl (decodeFrame_ok ..), (hu.keepReading bs).report _ _⟩

theorem startArtBody_completes (hm : s.mode = .idle) (hl : s.lifecycle ≠ .configError) :
    ((command .acceleratedResponse modeEntrySettle s).bind fun _ u =>
      .go ⟨.empty, []⟩ (u.setMode .acceleratedResponse)).Completes .startArt s :=
  (raise_done (command_keeps _ _ (.refl s))).bind fun _ _ hu =>
    ⟨_, .mode hl (hm ▸ .startArt), hu.setMode _⟩

theorem stopBody_completes (hl : s.lifecycle ≠ .configError) :
    ((stopSampling s).bind fun _ u => .go ⟨.empty, []⟩ u).Completes .stop s :=
  (raise_done (stopSampling_meets s)).bind fun _ _ hu =>
    ⟨_, .mode hl (.stop _), hu⟩

/-- SOFT_RESET: where the stop went on and the reset command then fails, the stop has been made (R240). -/
theorem softResetBody_completes (hl : s.lifecycle ≠ .configError) :
    ((stopSampling s).bind fun _ u => commandOnly .softReset u).Completes .softReset s := by
  refine (raise_done (stopSampling_meets s)).bind fun _ u hu => ?_
  unfold commandOnly
  exact ((command_keeps _ _ hu).mono (fun _ _ h => h) fun _ _ hv => ⟨_, .mode hl (.softReset _), hv⟩).bind
    fun _ _ hv => ⟨_, .mode hl (.softReset _), hv⟩

end

/-! ### The end of an operation -/

/-- The operation of `i` that began in the held state `s` ended in `t`: it wrote what it may, and presented one
well-formed response. -/
def Ends (i : Instr) (s t : State) : Prop :=
  s.held = true ∧ ∃ u r, Done i s r.payload u ∧ r.Ok ∧ t = u.present r

section
variable {i : Instr} {s t : State} {op : OpCode}

theorem closeOperation_ends {f : Flow Answer} (h : closeOperation op s f = .next t) (hf : f.Completes i s) :
    Ends i s t := by
  obtain ⟨hs, rfl, he⟩ := closeOperation_next h
  refine ⟨hs, ?_⟩
  cases f with
  | go a u => exact ⟨u, responseOf a, hf, responseOf_ok a, rfl⟩
  | raise d u =>
    obtain ⟨s', hw, hu⟩ := hf
    exact ⟨_, _, ⟨s', hw, hu.append (es := [faultEvent op d]) settled_nil⟩, raisedResponse_ok d, u.takeFault_eq op d⟩
  | never =>
    have hb : s.busAnswers = false := hf
    simp [hb] at he

theorem operation_ends {body : State → Flow Answer} (h : operation op s body = .next t)
    (hb : s.lifecycle ≠ .configError → (body s).Completes i s) : Ends i s t := by
  refine closeOperation_ends h ?_
  obtain ⟨e, -, hl, -⟩ | ⟨d, e, -⟩ := admit_cases op none s <;> rw [e]
  · exact hb hl
  · exact .empty_of_extends (.refl s)

/-- A request that admission refuses writes nothing, whatever instruction it stands for. -/
theorem rejectRequest_ends {d : ParamDetail} (i : Instr) (h : rejectRequest op d s = .next t) : Ends i s t := by
  refine closeOperation_ends h ?_
  obtain ⟨-, hd, -⟩ | ⟨x, e, -⟩ := admit_cases op (some d) s
  · cases hd
  · rw [e]
    exact .empty_of_extends (.refl s)

/-- What every instruction's operation leaves when it ends. -/
theorem exec_ends (h : exec i s = .next t) : Ends i s t := by
  cases i with
  | crc8 d0 d1 => exact operation_ends h fun _ => .of_extends ((Extends.refl s).checksum _) nofun
  | validate d0 d1 d2 => exact operation_ends h fun _ => .of_extends ((Extends.refl s).checksum _) nofun
  | decode d0 d1 d2 d3 d4 d5 =>
    exact operation_ends h fun _ =>
      .of_extends ((((Extends.refl s).checksum _).checksum _).report _ _) nofun
  | singleShot rep =>
    simp only [exec, execSingleShot] at h
    split at h
    · exact rejectRequest_ends _ h
    · exact operation_ends h (singleShotBody_completes rep _)
  | startPeriodic rate rep =>
    simp only [exec, execStartPeriodic] at h
    split at h
    · exact rejectRequest_ends _ h
    · exact rejectRequest_ends _ h
    · next r p hr _ => exact operation_ends h (startPeriodicBody_completes rep p hr)
  | readData =>
    refine operation_ends h fun hl => ?_
    split
    · exact .empty_of_extends (.refl s)
    · exact readDataBody_completes hl
  | fetch =>
    refine operation_ends h fun _ => ?_
    split
    · exact .empty_of_extends (.refl s)
    · exact (commandOnly_keeps _ (.refl s)).completes rfl
  | startArt =>
    refine operation_ends h fun hl => ?_
    split
    · exact .empty_of_extends (.refl s)
    · next hm => exact startArtBody_completes (not_not.mp hm) hl
  | stop => exact operation_ends h stopBody_completes
  | softReset => exact operation_ends h softResetBody_completes
  | status =>
    exact operation_ends h fun _ =>
      Flow.Keeps.completes ((readStatus_keeps _ (.refl s)).bind fun _ _ hu => hu) rfl
  | checkStatus =>
    refine operation_ends h fun _ =>
      Flow.Keeps.completes ((readStatus_keeps _ (.refl s)).bind fun _ _ hu => hu.append ?_) rfl
    rw [busEvents_sinks]
    exact settled_nil
  | serial =>
    exact operation_ends h fun _ => Flow.Keeps.completes ((command_keeps _ _ (.refl s)).bind fun _ _ hu =>
      (busRead_keeps 6 hu).bind fun _ _ hv => ((hv.checksum _).checksum _).report _ _) rfl
  | heaterEn => exact operation_ends h fun _ => (commandOnly_keeps _ (.refl s)).completes rfl
  | heaterDis => exact operation_ends h fun _ => (commandOnly_keeps _ (.refl s)).completes rfl
  | clearStatus => exact operation_ends h fun _ => (commandOnly_keeps _ (.refl s)).completes rfl
  | close => exact operation_ends h fun hl => ⟨_, .close hl rfl, (Extends.refl s).setLifecycle _⟩

end

end Sys2Proof.Machine
end

section
/-! SUPPORT. What the end of an operation means for each element of the state, and the statements about the operations'
writes and responses. -/

namespace Sys2Proof.Machine

section
variable {i : Instr} {s t : State}

theorem Ends.response (h : Ends i s t) :
    ∃ r, t.rsp = some r ∧ t.rspLog = s.rspLog ++ [r] ∧ r.Ok ∧ t.reqReady = true := by
  obtain ⟨-, u, ⟨code, detail, p⟩, ⟨s', hw, hu⟩, hr, rfl⟩ := h
  refine ⟨_, rfl, ?_, hr, rfl⟩
  cases hw <;> exact congrArg (· ++ _) hu.rspLog

theorem Ends.log (h : Ends i s t) : ∃ es, t.log = s.log ++ es ∧ Settled (busEvents es) := by
  obtain ⟨-, u, ⟨code, detail, p⟩, ⟨s', hw, hu⟩, -, rfl⟩ := h
  cases hw <;> exact hu.log

theorem Ends.config (h : Ends i s t) : t.config = s.config := by
  obtain ⟨-, u, ⟨code, detail, p⟩, ⟨s', hw, hu⟩, -, rfl⟩ := h
  cases hw <;> exact hu.config

theorem Ends.lifecycle (h : Ends i s t) :
    t.lifecycle = s.lifecycle ∨ (s.lifecycle ≠ .configError ∧ i = .close ∧ t.lifecycle = .closed) := by
  obtain ⟨-, u, ⟨code, detail, p⟩, ⟨s', hw, hu⟩, -, rfl⟩ := h
  cases hw with
  | close hl hi => exact .inr ⟨hl, hi, hu.lifecycle⟩
  | nothing | mode | reading => exact .inl hu.lifecycle

theorem Ends.mode (h : Ends i s t) :
    t.mode = s.mode ∨ (s.lifecycle ≠ .configError ∧ ModeArrow i s.mode t.mode) := by
  obtain ⟨-, u, ⟨code, detail, p⟩, ⟨s', hw, hu⟩, -, rfl⟩ := h
  cases hw with
  | mode hl ha => exact .inr ⟨hl, by simpa [hu.mode] using ha⟩
  | nothing | reading | close => exact .inl hu.mode

theorem Ends.lastReading (h : Ends i s t) :
    (t.lastReading = s.lastReading ∧
      (readsFrame i = true → ∀ r, t.rsp.map Response.payload ≠ some (.reading r))) ∨
    ∃ r, s.lifecycle ≠ .configError ∧ readsFrame i = true ∧ r.Ok ∧
      t.rsp.map Response.payload = some (.reading r) ∧ t.lastReading = some r := by
  obtain ⟨-, u, ⟨code, detail, p⟩, ⟨s', hw, hu⟩, -, rfl⟩ := h
  cases hw with
  | nothing hp => exact .inl ⟨hu.lastReading, by simpa using hp⟩
  | reading hl hi hr => exact .inr ⟨_, hl, hi, hr, rfl, hu.lastReading⟩
  | mode | close => exact .inl ⟨hu.lastReading, by simp⟩

theorem ModeArrow.ne_singleShot {m m' : Mode} (h : ModeArrow i m m') : m' ≠ .singleShot := by
  cases h <;> simp

theorem ModeArrow.operation {m m' : Mode} (h : ModeArrow i m m') :
    (∃ rate rep, i = .startPeriodic rate rep) ∨ i = .startArt ∨ i = .stop ∨ i = .softReset := by
  cases h <;> simp

theorem held_iff {s : State} :
    s.held = true ↔ (s.lifecycle = .configError ↔ (configCheck s.config).isSome = true) ∧ s.mode ≠ .singleShot := by
  rw [State.held, Bool.and_eq_true, decide_eq_true_iff, decide_eq_true_iff]

theorem Ends.held (h : Ends i s t) : t.held = true := by
  obtain ⟨hl, hm⟩ := held_iff.mp h.1
  refine held_iff.mpr ⟨?_, ?_⟩
  · rw [h.config, ← hl]
    obtain e | ⟨hc, -, e⟩ := h.lifecycle
    · rw [e]
    · simp [hc, e]
  · obtain e | ⟨-, ha⟩ := h.mode
    · rwa [e]
    · exact ha.ne_singleShot

end

/-- Settles O44: the end of an operation presents its one response. -/
theorem everyRequestGetsOneResponse : Obligations.EveryRequestGetsOneResponse :=
  fun _ _ _ h => (exec_ends h).response

/-- Settles O45: `CONFIG` is in the frame, and CLOSE's is the one write of `LIFECYCLE`. -/
theorem onlyCloseWritesLifecycle : Obligations.OnlyCloseWritesLifecycle :=
  fun _ _ _ h => ⟨(exec_ends h).config, (exec_ends h).lifecycle.imp_right And.right⟩

/-- Settles O13, by the closed forms of the two conversions. -/
theorem decodedReadingsAreInRange : Obligations.DecodedReadingsAreInRange := decodeFrame_ok

/-- Settles O48: an operation that ends has left `LAST_READING`, or has written the Reading of its payload there. -/
theorem onlyFrameReadsWriteLastReading : Obligations.OnlyFrameReadsWriteLastReading := by
  intro i s t h
  rw [← readsFrame_iff]
  obtain ⟨hkept, hp⟩ | ⟨r, -, hi, -, hp, hw⟩ := (exec_ends h).lastReading
  · exact ⟨fun r hi hr => absurd hr (hp hi r), fun _ => hkept⟩
  · refine ⟨fun r' _ hr' => ?_, fun hn => absurd ⟨hi, r, hp⟩ hn⟩
    obtain rfl : r = r' := by simpa [hp] using hr'
    exact hw

/-! ### Reset (R49, R320) -/

/-- The events of a reset whose configuration check answered `check`, after its mark. -/
def resetEvents : Option ConfigDetail → List LogEvent
  | none => [.sink (.resetDone .opened)]
  | some d => [.sink (.resetDone .configError), .sink (.fault .configurationError (.configuration d) .reset)]

theorem takeReset_eq (cfg : Config) (s : State) :
    takeReset cfg s = { s with
      lifecycle := if (configCheck cfg).isNone then .opened else .configError
      mode := .idle
      lastReading := none
      config := cfg
      rsp := none
      reqReady := true
      log := s.log ++ [.bus .resetMark] ++ resetEvents (configCheck cfg) } := by
  unfold takeReset
  cases configCheck cfg <;> simp [State.emit, State.append, State.setLifecycle, resetEvents]

theorem step_of_reset_ready {s : State} {cfg : Config} {rest : List HostMove} (h : s.inputs = .reset cfg :: rest)
    (hr : s.reqReady = true) : step s = .next (takeReset cfg { s with inputs := rest }).leaveHidden := by
  simp [step, takeMove, h, hr, betweenOperations]

theorem step_of_reset_busy {s : State} {cfg : Config} {rest : List HostMove} (h : s.inputs = .reset cfg :: rest)
    (hr : s.reqReady = false) : step s = .refused .resetDuringRequest := by
  simp [step, takeMove, h, hr]

/-- Settles O54, in the terms of `takeReset_eq`; the hidden elements get free values. -/
theorem resetLeavesItsValues : Obligations.ResetLeavesItsValues := by
  intro s cfg rest h hr
  refine ⟨Config.freeCrcRegister s.hiddenDrawn, Config.freeFrame s.hiddenDrawn, s.hiddenDrawn + 1, ?_⟩
  rw [step_of_reset_ready h hr, takeReset_eq]
  cases configCheck cfg <;> rfl

/-- Settles O46: an operation keeps `MODE` or follows an arrow, and no arrow leads to SingleShot. -/
theorem onlyModeOperationsWriteMode : Obligations.OnlyModeOperationsWriteMode := by
  refine ⟨fun i s t h => ⟨(held_iff.mp (exec_ends h).held).2, fun _ hp ha hst hsr => ?_⟩, fun cfg s => ?_⟩
  · obtain e | ⟨-, arrow⟩ := (exec_ends h).mode
    · exact e
    · obtain ⟨rate, rep, rfl⟩ | rfl | rfl | rfl := arrow.operation
      · exact absurd rfl (hp rate rep)
      · exact absurd rfl ha
      · exact absurd rfl hst
      · exact absurd rfl hsr
  · rw [takeReset_eq]

/-! ### One step -/

theorem busEvents_resetEvents (c : Option ConfigDetail) : busEvents (resetEvents c) = [] := by
  cases c <;> rfl

theorem betweenOperations_next {o : Machine.Outcome} {t : State} (h : betweenOperations o = .next t) :
    ∃ u, o = .next u ∧ t = u.leaveHidden := by
  cases o with
  | next u => exact ⟨u, rfl, by cases h; rfl⟩
  | fault | refused => cases h

theorem runRequest_ends {w : Request} {s t : State} (h : runRequest w s = .next t) : ∃ i, Ends i s t := by
  cases hd : decodeRequest w with
  | instr i => exact ⟨i, exec_ends (runRequest_of_instr s hd ▸ h)⟩
  | bad d => exact ⟨.close, rejectRequest_ends _ (runRequest_of_bad s hd ▸ h)⟩

/-- What a step can do: wait, run an accepted request to its end, or take a reset. -/
theorem step_cases {s t : State} (h : step s = .next t) :
    t = s ∨ (∃ i rest u, Ends i (s.accept rest) u ∧ t = u.leaveHidden) ∨
    ∃ cfg rest, t = (takeReset cfg { s with inputs := rest }).leaveHidden := by
  match hi : s.inputs, hr : s.reqReady with
  | [], _ =>
    rw [step_of_no_move hi] at h
    cases h
    exact .inl rfl
  | .request w :: rest, false =>
    rw [step_of_request_busy hi hr] at h
    cases h
    exact .inl rfl
  | .request w :: rest, true =>
    rw [step_of_request_ready hi hr] at h
    obtain ⟨u, hu, rfl⟩ := betweenOperations_next h
    obtain ⟨i, he⟩ := runRequest_ends hu
    exact .inr (.inl ⟨i, rest, u, he, rfl⟩)
  | .reset cfg :: rest, false => simp [step_of_reset_busy hi hr] at h
  | .reset cfg :: rest, true =>
    rw [step_of_reset_ready hi hr] at h
    cases h
    exact .inr (.inr ⟨cfg, rest, rfl⟩)

/-- Settles O57: a wait, the end of an operation and a reset append, and nothing else happens. -/
theorem stepOnlyAppends : Obligations.StepOnlyAppends := by
  intro s t h
  obtain rfl | ⟨i, rest, u, he, rfl⟩ | ⟨cfg, rest, rfl⟩ := step_cases h
  · exact ⟨List.prefix_rfl, List.prefix_rfl⟩
  · obtain ⟨es, hlog, -⟩ := he.log
    obtain ⟨r, -, hrsp, -⟩ := he.response
    exact ⟨⟨es, hlog.symm⟩, ⟨[r], hrsp.symm⟩⟩
  · rw [takeReset_eq]
    exact ⟨⟨_, (List.append_assoc ..).symm⟩, List.prefix_rfl⟩

/-! ### The invariant -/

theorem State.Inv.leaveHidden {s : State} (h : s.Inv) : s.leaveHidden.Inv := { h with }

/-- A request accepted between two requests and run to its end leads to where the invariant holds again. -/
theorem Ends.inv {i : Instr} {s t : State} {rest : List HostMove} (h : Ends i (s.accept rest) t) (hs : s.Inv) :
    t.Inv := by
  obtain ⟨r, hrsp, hlog, hr, hready⟩ := h.response
  obtain ⟨es, hes, hsettled⟩ := h.log
  refine ⟨h.held, hready, fun ht => ?_, fun x hx => ?_, fun x hx => ?_, .inr ?_, ?_⟩
  · have hc : s.lifecycle = .configError := by
      obtain e | ⟨-, -, e⟩ := h.lifecycle
      · exact e ▸ ht
      · simp [e] at ht
    obtain ⟨hm, hl⟩ := hs.configError hc
    obtain em | ⟨hn, -⟩ := h.mode
    · obtain ⟨el, -⟩ | ⟨_, hn, -⟩ := h.lastReading
      · exact ⟨em.trans hm, el.trans hl⟩
      · exact absurd hc hn
    · exact absurd hc hn
  · obtain ⟨e, -⟩ | ⟨y, -, -, hy, -, e⟩ := h.lastReading
    · exact hs.reading x (e ▸ hx)
    · obtain rfl : y = x := by simpa [e] using hx
      exact hy
  · simp only [hlog, State.accept_rspLog, List.mem_append, List.mem_singleton] at hx
    obtain hx | rfl := hx
    · exact hs.responses x hx
    · exact hr
  · simp [hrsp, hlog]
  · rw [State.busLog, hes, busEvents_append]
    exact hs.settled.append hsettled

/-- A reset leads to the invariant whatever it finds, but for the histories it only appends to. -/
theorem takeReset_inv (cfg : Config) {s : State} (hr : ∀ r ∈ s.rspLog, r.Ok) (hs : Settled s.busLog) :
    (takeReset cfg s).Inv := by
  rw [takeReset_eq]
  exact {
    held := by cases h : configCheck cfg <;> simp [held_iff, h]
    ready := rfl
    configError := fun _ => ⟨rfl, rfl⟩
    reading := nofun
    responses := hr
    port := .inl rfl
    settled := by
      simp only [State.busLog, busEvents_append, busEvents_resetEvents, List.append_nil]
      exact Settled.append hs rfl }

/-- Settles O58: a wait changes nothing, an accepted request ends as every operation does, and a reset makes the
invariant anew. -/
theorem stepKeepsInvariant : Obligations.StepKeepsInvariant := by
  intro s t hs h
  obtain rfl | ⟨i, rest, u, he, rfl⟩ | ⟨cfg, rest, rfl⟩ := step_cases h
  · exact hs
  · exact (he.inv hs).leaveHidden
  · exact (takeReset_inv cfg (s := { s with inputs := rest }) hs.responses hs.settled).leaveHidden

/-- `State.reset` is what a reset leaves of a state with empty histories (R320). -/
theorem reset_eq_takeReset : State.reset = takeReset Config.example { State.reset with log := [] } := by
  decide +kernel

/-- Settles O59: the state at reset is one that a reset leaves. -/
theorem resetMeetsInvariant : Obligations.ResetMeetsInvariant := by
  unfold Obligations.ResetMeetsInvariant
  rw [reset_eq_takeReset]
  exact takeReset_inv _ (by simp [State.reset]) rfl

end Sys2Proof.Machine
end

section
/-! SUPPORT. Runs from two states that no operation can tell apart: the flows of the pseudocode go the same way from both,
and lead again to such states. It is proved for every relation that the views respect and the updates keep, and used for
states that differ in the hidden elements only (R42, R43). -/

namespace Sys2Proof.Machine

/-- Related states look the same to every statement of the pseudocode, and every update of both leaves them related. -/
structure Indistinct (R : State → State → Prop) : Prop where
  config {s s'} : R s s' → s'.config = s.config
  lifecycle {s s'} : R s s' → s'.lifecycle = s.lifecycle
  mode {s s'} : R s s' → s'.mode = s.mode
  nextWriteAnswer {s s'} : R s s' → s'.nextWriteAnswer = s.nextWriteAnswer
  nextReadAnswer {s s'} : R s s' → s'.nextReadAnswer = s.nextReadAnswer
  busAnswers {s s'} : R s s' → s'.busAnswers = s.busAnswers
  setLifecycle {s s'} : R s s' → ∀ l, R (s.setLifecycle l) (s'.setLifecycle l)
  setMode {s s'} : R s s' → ∀ m, R (s.setMode m) (s'.setMode m)
  setLastReading {s s'} : R s s' → ∀ r, R (s.setLastReading r) (s'.setLastReading r)
  append {s s'} : R s s' → ∀ es, R (s.append es) (s'.append es)
  checksum {s s'} : R s s' → ∀ bs, R (s.checksum bs) (s'.checksum bs)
  fillFrame {s s'} : R s s' → ∀ bs, R (s.fillFrame bs) (s'.fillFrame bs)
  present {s s'} : R s s' → ∀ r, R (s.present r) (s'.present r)
  consumeWrite {s s'} : R s s' → R s.consumeWrite s'.consumeWrite
  consumeRead {s s'} : R s s' → R s.consumeRead s'.consumeRead

/-- Two flows that go the same way, with the same value or fault, to related states. -/
inductive Flow.Related (R : State → State → Prop) {α : Type} : Flow α → Flow α → Prop
  | go (a : α) {s s' : State} (h : R s s') : Related R (.go a s) (.go a s')
  | raise (d : Detail) {s s' : State} (h : R s s') : Related R (.raise d s) (.raise d s')
  | never : Related R .never .never

/-- Where the first outcome is a next state, the second is one related to it. -/
def FollowedBy (R : State → State → Prop) (o o' : Machine.Outcome) : Prop :=
  ∀ t, o = .next t → ∃ t', o' = .next t' ∧ R t t'

section
variable {R : State → State → Prop} {α β : Type}

theorem Flow.Related.bind {f f' : Flow α} {k k' : α → State → Flow β} (h : Related R f f')
    (hk : ∀ a s s', R s s' → Related R (k a s) (k' a s')) : Related R (f.bind k) (f'.bind k') := by
  cases h with
  | go a h => exact hk a _ _ h
  | raise d h => exact .raise d h
  | never => exact .never

theorem Flow.Related.onRaise {f f' : Flow α} {w : State → State} (h : Related R f f')
    (hw : ∀ s s', R s s' → R (w s) (w s')) : Related R (f.onRaise w) (f'.onRaise w) := by
  cases h with
  | go a h => exact .go a h
  | raise d h => exact .raise d (hw _ _ h)
  | never => exact .never

theorem Flow.Related.ends {f f' : Flow α} (h : Related R f f') : f'.ends = f.ends := by
  cases h <;> rfl

end

section
variable {R : State → State → Prop} (hR : Indistinct R) {s s' : State}
include hR

theorem busWrite_related (v : CommandWord) (h : R s s') : (busWrite v s).Related R (busWrite v s') := by
  unfold busWrite
  rw [hR.nextWriteAnswer h, hR.config h]
  split
  · exact .never
  · exact .raise _ (hR.append (hR.consumeWrite h) _)
  · exact .go _ (hR.append (hR.consumeWrite h) _)

theorem busRead_related (n : Nat) (h : R s s') : (busRead n s).Related R (busRead n s') := by
  unfold busRead
  rw [hR.nextReadAnswer h, hR.config h]
  split
  · exact .never
  · exact .raise _ (hR.append (hR.consumeRead h) _)
  · split
    · exact .raise _ (hR.append (hR.consumeRead h) _)
    · exact .go _ (hR.fillFrame (hR.append (hR.consumeRead h) _) _)

theorem command_related (key : CtKey) (us : Nat) (h : R s s') : (command key us s).Related R (command key us s') := by
  unfold command
  rw [hR.config h]
  exact (busWrite_related hR _ h).bind fun _ _ _ ht => .go _ (hR.append ht _)

theorem commandOnly_related (key : CtKey) (h : R s s') : (commandOnly key s).Related R (commandOnly key s') := by
  unfold commandOnly
  rw [hR.config h]
  exact (command_related hR _ _ h).bind fun _ _ _ ht => .go _ ht

theorem stopSampling_related (h : R s s') : (stopSampling s).Related R (stopSampling s') := by
  unfold stopSampling
  rw [hR.mode h, hR.config h]
  split
  · exact .go _ h
  · exact (command_related hR _ _ h).bind fun _ _ _ ht => .go _ (hR.setMode ht _)

theorem readStatus_related (op : OpCode) (h : R s s') : (readStatus op s).Related R (readStatus op s') := by
  unfold readStatus
  rw [hR.config h]
  refine (command_related hR _ _ h).bind fun _ _ _ ht => (busRead_related hR _ ht).bind fun _ _ _ hu => ?_
  rw [hR.config hu]
  exact .go _ (hR.append (hR.checksum hu _) _)

theorem keepReading_related (bs : List Byte) (h : R s s') : R (keepReading bs s) (keepReading bs s') := by
  unfold keepReading
  rw [hR.config h]
  exact hR.setLastReading (hR.checksum (hR.checksum h _) _) _

theorem answerReading_related (op : OpCode) (r : Reading) (h : R s s') :
    (answerReading op r s).Related R (answerReading op r s') := .go _ (hR.append h _)

theorem singleShotBody_related (rep : Rep) (h : R s s') :
    (singleShotBody rep s).Related R (singleShotBody rep s') := by
  unfold singleShotBody
  rw [hR.mode h]
  split
  · exact .raise _ h
  · refine Flow.Related.onRaise ?_ fun _ _ ht => hR.setMode ht _
    refine (command_related hR _ _ (hR.setMode h _)).bind fun _ _ _ ht =>
      (busRead_related hR _ ht).bind fun _ _ _ hu => ?_
    rw [hR.config hu]
    exact answerReading_related hR _ _ (hR.setMode (keepReading_related hR _ hu) _)

theorem startPeriodicBody_related (rate : Rate) (rep : Rep) (h : R s s') :
    (startPeriodicBody rate rep s).Related R (startPeriodicBody rate rep s') := by
  unfold startPeriodicBody
  rw [hR.mode h]
  split
  · exact .raise _ h
  · exact (command_related hR _ _ h).bind fun _ _ _ ht => .go _ (hR.setMode ht _)

theorem admitRequest_related (op : OpCode) (bad : Option ParamDetail) (h : R s s') :
    (admitRequest op bad s).Related R (admitRequest op bad s') := by
  unfold admitRequest
  rw [hR.lifecycle h, hR.config h]
  split
  · exact .raise _ h
  · cases bad with
    | some d => exact .raise _ h
    | none =>
      dsimp only
      split
      · exact .raise _ h
      · exact .go _ h

theorem Flow.Related.final (op : OpCode) {f f' : Flow Answer} (h : R s s') (hf : f.Related R f') :
    R (f.final op s) (f'.final op s') := by
  cases hf with
  | go a ht => exact hR.present ht _
  | raise d ht => exact hR.present (hR.append ht _) _
  | never => exact h

theorem Indistinct.held (h : R s s') : s'.held = s.held := by
  rw [State.held, hR.lifecycle h, hR.config h, hR.mode h, State.held]

theorem closeOperation_followedBy (op : OpCode) {f f' : Flow Answer} (h : R s s') (hf : f.Related R f') :
    FollowedBy R (closeOperation op s f) (closeOperation op s' f') := by
  intro t ht
  obtain ⟨hs, rfl, he⟩ := closeOperation_next ht
  refine ⟨f'.final op s', ?_, hf.final hR op h⟩
  simp [closeOperation, hR.held h, hs, hR.busAnswers h, hf.ends, he.symm]

theorem operation_followedBy {op : OpCode} {body : State → Flow Answer} (h : R s s')
    (hb : ∀ t t', R t t' → (body t).Related R (body t')) :
    FollowedBy R (operation op s body) (operation op s' body) :=
  closeOperation_followedBy hR op h ((admitRequest_related hR op none h).bind fun _ => hb)

theorem rejectRequest_followedBy (op : OpCode) (d : ParamDetail) (h : R s s') :
    FollowedBy R (rejectRequest op d s) (rejectRequest op d s') :=
  closeOperation_followedBy hR op h ((admitRequest_related hR op _ h).bind fun _ _ _ ht => .go _ ht)

/-- No operation can tell related states apart. -/
theorem exec_followedBy (i : Instr) (h : R s s') : FollowedBy R (exec i s) (exec i s') := by
  cases i with
  | crc8 | validate => exact operation_followedBy hR h fun _ _ ht => .go _ (hR.checksum ht _)
  | decode =>
    refine operation_followedBy hR h fun _ _ ht => ?_
    rw [hR.config ht]
    exact answerReading_related hR _ _ (hR.checksum (hR.checksum ht _) _)
  | singleShot rep =>
    simp only [exec, execSingleShot]
    split
    · exact rejectRequest_followedBy hR _ _ h
    · exact operation_followedBy hR h fun _ _ => singleShotBody_related hR _
  | startPeriodic rate rep =>
    simp only [exec, execStartPeriodic]
    split
    · exact rejectRequest_followedBy hR _ _ h
    · exact rejectRequest_followedBy hR _ _ h
    · exact operation_followedBy hR h fun _ _ => startPeriodicBody_related hR _ _
  | readData =>
    refine operation_followedBy hR h fun _ _ ht => ?_
    rw [hR.mode ht]
    split
    · exact .raise _ ht
    · refine (busRead_related hR _ ht).bind fun _ _ _ hu => ?_
      rw [hR.config hu]
      exact answerReading_related hR _ _ (keepReading_related hR _ hu)
  | fetch =>
    refine operation_followedBy hR h fun _ _ ht => ?_
    rw [hR.mode ht]
    split
    · exact .raise _ ht
    · exact commandOnly_related hR _ ht
  | startArt =>
    refine operation_followedBy hR h fun _ _ ht => ?_
    rw [hR.mode ht]
    split
    · exact .raise _ ht
    · exact (command_related hR _ _ ht).bind fun _ _ _ hu => .go _ (hR.setMode hu _)
  | stop => exact operation_followedBy hR h fun _ _ ht => (stopSampling_related hR ht).bind fun _ _ _ hu => .go _ hu
  | softReset =>
    exact operation_followedBy hR h fun _ _ ht =>
      (stopSampling_related hR ht).bind fun _ _ _ hu => commandOnly_related hR _ hu
  | status =>
    exact operation_followedBy hR h fun _ _ ht => (readStatus_related hR _ ht).bind fun _ _ _ hu => .go _ hu
  | checkStatus =>
    refine operation_followedBy hR h fun _ _ ht => (readStatus_related hR _ ht).bind fun _ _ _ hu => ?_
    rw [hR.config hu]
    exact .go _ (hR.append hu _)
  | serial =>
    refine operation_followedBy hR h fun _ _ ht => ?_
    rw [hR.config ht]
    exact (command_related hR _ _ ht).bind fun _ _ _ hu => (busRead_related hR _ hu).bind fun _ _ _ hv =>
      .go _ (hR.append (hR.checksum (hR.checksum hv _) _) _)
  | heaterEn | heaterDis | clearStatus => exact operation_followedBy hR h fun _ _ => commandOnly_related hR _
  | close => exact operation_followedBy hR h fun _ _ ht => .go _ (hR.setLifecycle ht _)

end

/-- `s'` is `s` with other hidden elements (R42, R43). -/
def DiffersInHidden (s s' : State) : Prop := ∃ c f, s' = { s with crcR := c, frame := f }

/-- No statement reads the hidden elements, and every update leaves two states that differ there so. -/
theorem indistinct_differsInHidden : Indistinct DiffersInHidden where
  config := by rintro s _ ⟨c, f, rfl⟩; rfl
  lifecycle := by rintro s _ ⟨c, f, rfl⟩; rfl
  mode := by rintro s _ ⟨c, f, rfl⟩; rfl
  nextWriteAnswer := by rintro s _ ⟨c, f, rfl⟩; rfl
  nextReadAnswer := by rintro s _ ⟨c, f, rfl⟩; rfl
  busAnswers := by rintro s _ ⟨c, f, rfl⟩; rfl
  setLifecycle := by rintro s _ ⟨c, f, rfl⟩ _; exact ⟨c, f, rfl⟩
  setMode := by rintro s _ ⟨c, f, rfl⟩ _; exact ⟨c, f, rfl⟩
  setLastReading := by rintro s _ ⟨c, f, rfl⟩ _; exact ⟨c, f, rfl⟩
  append := by rintro s _ ⟨c, f, rfl⟩ _; exact ⟨c, f, rfl⟩
  checksum := by rintro s _ ⟨c, f, rfl⟩ bs; exact ⟨crc8 bs, f, rfl⟩
  fillFrame := by rintro s _ ⟨c, f, rfl⟩ _; exact ⟨c, _, rfl⟩
  present := by rintro s _ ⟨c, f, rfl⟩ _; exact ⟨c, f, rfl⟩
  consumeWrite := by rintro s _ ⟨c, f, rfl⟩; exact ⟨c, f, rfl⟩
  consumeRead := by rintro s _ ⟨c, f, rfl⟩; exact ⟨c, f, rfl⟩

/-- Settles O52: states that differ in the hidden elements are indistinct to every operation. -/
theorem hiddenElementsAreNeverRead : Obligations.HiddenElementsAreNeverRead := by
  intro i s t c f h
  obtain ⟨_, h', c', f', rfl⟩ := exec_followedBy indistinct_differsInHidden i ⟨c, f, rfl⟩ t h
  exact ⟨c', f', h'⟩

end Sys2Proof.Machine
end

section
/-! SUPPORT. The bus traffic of every operation: what a sequence of transactions with its row of R78 looks like, which
part of its row each statement of the pseudocode issues, and the statements about rows and addresses (R71, R78). -/

namespace Sys2Proof.Machine

/-! ### Sequences of transactions -/

/-- A piece of `BUS_LOG` with `w` writes, then `r` reads of `n` bytes each, all of them to `addr`; delays anywhere. -/
inductive Traffic (addr : BusAddr) (n : Nat) : Nat → Nat → List BusEvent → Prop
  | nil : Traffic addr n 0 0 []
  | write {w : Nat} {es : List BusEvent} (h : Traffic addr n w 0 es) (hi lo : Byte) (ans : WriteAnswer) :
      Traffic addr n (w + 1) 0 (es ++ [.write addr hi lo ans])
  | settle {w r : Nat} {es : List BusEvent} (h : Traffic addr n w r es) (us : Nat) :
      Traffic addr n w r (es ++ [.settle us])
  | read {w r : Nat} {es : List BusEvent} (h : Traffic addr n w r es) (ans : ReadAnswer) :
      Traffic addr n w (r + 1) (es ++ [.read addr n ans])

section
variable {addr a : BusAddr} {n w r : Nat} {es : List BusEvent}

theorem Traffic.countP_isWrite (h : Traffic addr n w r es) : es.countP BusEvent.isWrite = w := by
  induction h with
  | nil => rfl
  | write _ _ _ _ ih | settle _ _ ih | read _ _ ih => simp [ih, BusEvent.isWrite]

theorem Traffic.countP_isRead (h : Traffic addr n w r es) : es.countP BusEvent.isRead = r := by
  induction h with
  | nil => rfl
  | write _ _ _ _ ih | settle _ _ ih | read _ _ ih => simp [ih, BusEvent.isRead]

theorem Traffic.writes_before_reads (h : Traffic addr n w r es) :
    es.Pairwise (fun x y => ¬ (x.isRead = true ∧ y.isWrite = true)) := by
  induction h with
  | nil => exact .nil
  | write h _ _ _ ih =>
    have hr := List.countP_eq_zero.mp h.countP_isRead
    exact List.pairwise_append.mpr ⟨ih, List.pairwise_singleton .., fun x hx _ _ hxy => hr x hx hxy.1⟩
  | settle _ _ ih | read _ _ ih =>
    exact List.pairwise_append.mpr ⟨ih, List.pairwise_singleton .., by simp [BusEvent.isWrite]⟩

theorem Traffic.of_mem_write {hi lo : Byte} {ans : WriteAnswer} (h : Traffic addr n w r es)
    (he : .write a hi lo ans ∈ es) : a = addr := by
  induction h with
  | nil => cases he
  | write _ _ _ _ ih =>
    obtain he | he := List.mem_append.mp he
    · exact ih he
    · simp_all
  | settle _ _ ih | read _ _ ih => exact ih (by simpa using he)

theorem Traffic.of_mem_read {m : Nat} {ans : ReadAnswer} (h : Traffic addr n w r es)
    (he : .read a m ans ∈ es) : a = addr ∧ m = n := by
  induction h with
  | nil => cases he
  | read _ _ ih =>
    obtain he | he := List.mem_append.mp he
    · exact ih he
    · simp_all
  | write _ _ _ _ ih | settle _ _ ih => exact ih (by simpa using he)

end

/-! ### From one state to another -/

/-- On the way from `s` to `u` the block issued `w` writes, then `r` reads of `n` bytes each, to the address that is
configured in both. -/
structure Issues (s : State) (n w r : Nat) (u : State) : Prop where
  config : u.config = s.config
  answers : s.busAnswers = true → u.busAnswers = true
  log : ∃ es, u.busLog = s.busLog ++ es ∧ Traffic (busAddr s.config) n w r es

section
variable {s u : State} {n w r : Nat}

theorem Issues.refl (s : State) (n : Nat) : Issues s n 0 0 s := ⟨rfl, id, [], (List.append_nil _).symm, .nil⟩

/-- Events appended to the histories carry the traffic on as their bus events do. -/
theorem Issues.append {w' r' : Nat} {l : List LogEvent} (h : Issues s n w r u)
    (hl : ∀ es, Traffic (busAddr u.config) n w r es → Traffic (busAddr u.config) n w' r' (es ++ busEvents l)) :
    Issues s n w' r' (u.append l) := by
  obtain ⟨es, hes, ht⟩ := h.log
  refine { h with log := ⟨es ++ busEvents l, ?_, ?_⟩ }
  · calc busEvents (u.log ++ l) = u.busLog ++ busEvents l := busEvents_append ..
      _ = s.busLog ++ (es ++ busEvents l) := by rw [hes, List.append_assoc]
  · exact h.config ▸ hl es (h.config ▸ ht)

/-- Events that the bus does not see are no transactions. -/
theorem Issues.append_silent {l : List LogEvent} (h : Issues s n w r u) (hl : busEvents l = []) :
    Issues s n w r (u.append l) :=
  h.append fun es ht => by rwa [hl, List.append_nil]

theorem Issues.report (h : Issues s n w r u) (op : OpCode) (ws : List WordName) : Issues s n w r (u.report op ws) :=
  h.append_silent (busEvents_reportEvents op ws)

theorem Issues.setMode (h : Issues s n w r u) (m : Mode) : Issues s n w r (u.setMode m) := { h with }

theorem Issues.setLifecycle (h : Issues s n w r u) (l : Lifecycle) : Issues s n w r (u.setLifecycle l) := { h with }

theorem Issues.checksum (h : Issues s n w r u) (bs : List Byte) : Issues s n w r (u.checksum bs) := { h with }

theorem Issues.fillFrame (h : Issues s n w r u) (bs : List Byte) : Issues s n w r (u.fillFrame bs) := { h with }

theorem Issues.keepReading (h : Issues s n w r u) (bs : List Byte) : Issues s n w r (keepReading bs u) := { h with }

theorem Issues.present (h : Issues s n w r u) (x : Response) : Issues s n w r (u.present x) := { h with }

theorem Issues.consumeWrite (h : Issues s n w r u) : Issues s n w r u.consumeWrite :=
  { h with answers := fun hb => busAnswers_consumeWrite u (h.answers hb) }

theorem Issues.consumeRead (h : Issues s n w r u) : Issues s n w r u.consumeRead :=
  { h with answers := fun hb => busAnswers_consumeRead u (h.answers hb) }

/-- A flow that began in `s` hangs in `u` only if a bus transaction was without answer in `s` already. -/
theorem Issues.silent (h : Issues s n w r u) (hu : u.busAnswers = false) : s.busAnswers = false :=
  Bool.eq_false_iff.mpr fun hs => by simp [h.answers hs] at hu

end

/-! ### Rows of the table (R78) -/

/-- A row: how many writes, how many reads, and of how many bytes. -/
abbrev BusRow := Nat × Nat × Nat

/-- A fault that is raised, not reported, after no more transactions than the row has. -/
def FaultsIn (row : BusRow) (s : State) (d : Detail) (u : State) : Prop :=
  detailCode d ≠ .protocolFault ∧ ∃ w r, w ≤ row.1 ∧ r ≤ row.2.1 ∧ Issues s row.2.2 w r u

/-- A flow of an operation with this row that began in `s`: where it goes on, `w` writes and `r` reads have been issued
so far. -/
abbrev Flow.StaysIn {α : Type} (row : BusRow) (s : State) (w r : Nat) (f : Flow α) : Prop :=
  f.Meets s.busAnswers (fun _ => Issues s row.2.2 w r) (FaultsIn row s)

section
variable {row : BusRow} {s u : State} {w r : Nat}

/-- A fault before the first transaction. -/
theorem FaultsIn.at_once {d : Detail} (hd : detailCode d ≠ .protocolFault) : FaultsIn row s d s :=
  ⟨hd, 0, 0, Nat.zero_le _, Nat.zero_le _, .refl s _⟩

theorem command_staysIn (key : CtKey) (us : Nat) (h : Issues s row.2.2 w 0 u) (hw : w + 1 ≤ row.1) :
    (command key us u).StaysIn row s (w + 1) 0 := by
  obtain ⟨-, e⟩ | ⟨err, -, e⟩ | ⟨hn, e⟩ := command_cases key us u <;> rw [e]
  · exact h.consumeWrite.append fun es ht => by simpa using (ht.write _ _ .ack).settle us
  · exact ⟨nofun, w + 1, 0, hw, Nat.zero_le _, h.consumeWrite.append fun es ht => ht.write _ _ (.err err)⟩
  · exact h.silent (busAnswers_of_nextWriteAnswer_none hn)

theorem busRead_staysIn (h : Issues s row.2.2 w r u) (hw : w ≤ row.1) (hr : r + 1 ≤ row.2.1) :
    (busRead row.2.2 u).StaysIn row s w (r + 1) := by
  obtain ⟨bs, -, -, e⟩ | ⟨a, err, -, -, e⟩ | ⟨hn, e⟩ := busRead_cases row.2.2 u <;> rw [e]
  · exact (h.consumeRead.append fun es ht => ht.read (.data bs)).fillFrame bs
  · exact ⟨nofun, w, r + 1, hw, hr, h.consumeRead.append fun es ht => ht.read a⟩
  · exact h.silent (busAnswers_of_nextReadAnswer_none hn)

theorem commandOnly_staysIn (key : CtKey) (h : Issues s row.2.2 w 0 u) (hw : w + 1 ≤ row.1) :
    (commandOnly key u).StaysIn row s (w + 1) 0 :=
  (command_staysIn key _ h hw).bind fun _ _ ht => ht

theorem readStatus_staysIn (op : OpCode) (s : State) : (readStatus op s).StaysIn (1, 1, 3) s 1 1 :=
  (command_staysIn _ _ (.refl s _) le_rfl).bind fun _ _ ht =>
    (busRead_staysIn ht le_rfl le_rfl).bind fun _ _ hu => (hu.checksum _).report op _

/-- How many writes the stop of R209 issues. -/
def stopWrites (m : Mode) : Nat := if m = .idle then 0 else 1

theorem stopSampling_staysIn (h : stopWrites s.mode ≤ row.1) :
    (stopSampling s).StaysIn row s (stopWrites s.mode) 0 := by
  unfold stopWrites at h ⊢
  unfold stopSampling
  split
  · exact .refl s _
  · next hm =>
    rw [if_neg hm] at h
    exact (command_staysIn _ _ (.refl s _) h).bind fun _ _ ht => ht.setMode _

theorem singleShotBody_staysIn (p : Rep) (s : State) : (singleShotBody p s).StaysIn (1, 1, 6) s 1 1 := by
  unfold singleShotBody
  split
  · exact .at_once nofun
  · refine Flow.Meets.onRaise (E := FaultsIn (1, 1, 6) s) ?_
      fun _ _ ⟨hd, w, r, hw, hr, hu⟩ => ⟨hd, w, r, hw, hr, hu.setMode _⟩
    have hs : Issues s 6 0 0 (s.setMode .singleShot) := (Issues.refl s 6).setMode _
    refine (command_staysIn (row := (1, 1, 6)) _ _ hs le_rfl).bind fun _ t ht => ?_
    refine (busRead_staysIn (row := (1, 1, 6)) ht le_rfl le_rfl).bind fun bs u hu => ?_
    exact ((hu.keepReading bs).setMode _).report _ _

theorem startPeriodicBody_staysIn (rate : Rate) (p : Rep) (s : State) :
    (startPeriodicBody rate p s).StaysIn (1, 0, 0) s 1 0 := by
  unfold startPeriodicBody
  split
  · exact .at_once nofun
  · exact (command_staysIn _ _ (.refl s _) le_rfl).bind fun _ _ ht => ht.setMode _

end

/-! ### The end of an operation -/

/-- An operation with this row that began in `s` ended in `t` after no more transactions than the row has, and after all
of them if it responded normally. -/
def EndsIn (row : BusRow) (s t : State) : Prop :=
  ∃ w r, w ≤ row.1 ∧ r ≤ row.2.1 ∧ Issues s row.2.2 w r t ∧
    ∀ x, t.rsp = some x → x.code = .ok ∨ x.code = .protocolFault → w = row.1 ∧ r = row.2.1

section
variable {row : BusRow} {s t : State} {op : OpCode}

theorem detailCode_ne_ok (d : Detail) : detailCode d ≠ .ok := by
  cases d <;> nofun

theorem closeOperation_endsIn {f : Flow Answer} (h : closeOperation op s f = .next t)
    (hf : f.StaysIn row s row.1 row.2.1) : EndsIn row s t := by
  obtain ⟨-, rfl, he⟩ := closeOperation_next h
  cases f with
  | go a u => exact ⟨_, _, le_rfl, le_rfl, Issues.present hf _, fun _ _ _ => ⟨rfl, rfl⟩⟩
  | raise d u =>
    obtain ⟨hd, w, r, hw, hr, hu⟩ := hf
    refine ⟨w, r, hw, hr, (hu.append_silent (l := [faultEvent op d]) rfl).present _, fun x hx hc => ?_⟩
    obtain rfl : _ = x := Option.some.inj hx
    exact absurd hc (not_or.mpr ⟨detailCode_ne_ok d, hd⟩)
  | never =>
    have hb : s.busAnswers = false := hf
    simp [hb] at he

/-- What admission raises it raises before the first transaction, and no data word is its reason (R281). -/
theorem admitRequest_staysIn (op : OpCode) (bad : Option ParamDetail) (s : State) :
    (admitRequest op bad s).Meets s.busAnswers (fun _ u => bad = none ∧ u = s) (FaultsIn row s) := by
  obtain ⟨e, hb, -⟩ | ⟨d, e, hd⟩ := admit_cases op bad s <;> rw [e]
  · exact ⟨hb, rfl⟩
  · obtain ⟨-, rfl⟩ | ⟨p, -, rfl⟩ | ⟨-, rfl⟩ := hd <;> exact .at_once nofun

theorem operation_endsIn {body : State → Flow Answer} (h : operation op s body = .next t)
    (hb : (body s).StaysIn row s row.1 row.2.1) : EndsIn row s t :=
  closeOperation_endsIn h ((admitRequest_staysIn op none s).bind fun _ _ ⟨_, hu⟩ => hu ▸ hb)

/-- A request that admission refuses issues nothing, whatever row its operation has. -/
theorem rejectRequest_endsIn {d : ParamDetail} (h : rejectRequest op d s = .next t) : EndsIn row s t :=
  closeOperation_endsIn h ((admitRequest_staysIn op (some d) s).bind fun _ _ hu => nomatch hu.1)

end

/-- The row of an instruction's operation, in this `MODE` (R78). -/
def busRow (m : Mode) : Instr → BusRow
  | .crc8 _ _ | .validate _ _ _ | .decode _ _ _ _ _ _ | .close => (0, 0, 0)
  | .singleShot _ => (1, 1, 6)
  | .startPeriodic _ _ | .startArt | .fetch | .heaterEn | .heaterDis | .clearStatus => (1, 0, 0)
  | .readData => (0, 1, 6)
  | .stop => (stopWrites m, 0, 0)
  | .softReset => (stopWrites m + 1, 0, 0)
  | .status | .checkStatus => (1, 1, 3)
  | .serial => (1, 1, 6)

/-- Every instruction's operation ends within its row. -/
theorem exec_endsIn {i : Instr} {s t : State} (h : exec i s = .next t) : EndsIn (busRow s.mode i) s t := by
  have h0 (n : Nat) : Issues s n 0 0 s := .refl s n
  cases i with
  | crc8 | validate => exact operation_endsIn h ((h0 _).checksum _)
  | decode => exact operation_endsIn h ((((h0 _).checksum _).checksum _).report _ _)
  | singleShot rep =>
    simp only [exec, execSingleShot] at h
    split at h
    · exact rejectRequest_endsIn h
    · exact operation_endsIn h (singleShotBody_staysIn _ s)
  | startPeriodic rate rep =>
    simp only [exec, execStartPeriodic] at h
    split at h
    · exact rejectRequest_endsIn h
    · exact rejectRequest_endsIn h
    · exact operation_endsIn h (startPeriodicBody_staysIn _ _ s)
  | readData =>
    refine operation_endsIn h ?_
    split
    · exact .at_once nofun
    · exact (busRead_staysIn (h0 _) le_rfl le_rfl).bind fun bs _ hu => (hu.keepReading bs).report _ _
  | fetch =>
    refine operation_endsIn h ?_
    split
    · exact .at_once nofun
    · exact commandOnly_staysIn _ (h0 _) le_rfl
  | startArt =>
    refine operation_endsIn h ?_
    split
    · exact .at_once nofun
    · exact (command_staysIn _ _ (h0 _) le_rfl).bind fun _ _ hu => hu.setMode _
  | stop => exact operation_endsIn h ((stopSampling_staysIn le_rfl).bind fun _ _ hu => hu)
  | softReset =>
    exact operation_endsIn h ((stopSampling_staysIn (Nat.le_succ _)).bind fun _ _ hu =>
      commandOnly_staysIn _ hu le_rfl)
  | status => exact operation_endsIn h ((readStatus_staysIn _ s).bind fun _ _ hu => hu)
  | checkStatus =>
    exact operation_endsIn h ((readStatus_staysIn _ s).bind fun _ _ hu => hu.append_silent (busEvents_sinks _))
  | serial =>
    exact operation_endsIn h ((command_staysIn _ _ (h0 _) le_rfl).bind fun _ _ hu =>
      (busRead_staysIn hu le_rfl le_rfl).bind fun _ _ hv => ((hv.checksum _).checksum _).report _ _)
  | heaterEn | heaterDis | clearStatus => exact operation_endsIn h (commandOnly_staysIn _ (h0 _) le_rfl)
  | close => exact operation_endsIn h ((h0 _).setLifecycle _)

/-- SOFT_RESET has its own command's write after the stop's (R240). -/
theorem busRow_softReset (m : Mode) : busRow m .softReset = (if m = .idle then 1 else 2, 0, 0) := by
  by_cases hm : m = .idle <;> simp [busRow, stopWrites, hm]

/-- Settles O49: the operation ends within its row, whose transactions stand in order. -/
theorem busTrafficStaysInItsRow : Obligations.BusTrafficStaysInItsRow := by
  intro i s t h row
  have hrow : busRow s.mode i = row := by
    cases i with
    | softReset => exact busRow_softReset _
    | _ => rfl
  obtain ⟨w, r, hw, hr, ⟨-, -, es, hes, ht⟩, hall⟩ := hrow ▸ exec_endsIn h
  rw [← ht.countP_isWrite, ← ht.countP_isRead] at hall
  exact ⟨es, hes, ht.countP_isWrite ▸ hw, ht.countP_isRead ▸ hr, hall, ht.writes_before_reads,
    fun _ _ _ he => (ht.of_mem_read he).2⟩

/-- Settles O50: the transactions of the operation's row go to the configured address. -/
theorem everyTransactionGoesToBusAddr : Obligations.EveryTransactionGoesToBusAddr := by
  intro i s t addr h haddr
  obtain ⟨w, r, -, -, ⟨hconfig, -, es, hes, ht⟩, -⟩ := exec_endsIn h
  have hbus : busAddr s.config = addr := by simp [busAddr, haddr]
  rw [hbus] at ht
  refine ⟨by rw [hconfig, haddr], es, hes, fun e he => ⟨?_, ?_⟩⟩
  · rintro a hi lo ans rfl
    exact ht.of_mem_write he
  · rintro a n ans rfl
    exact (ht.of_mem_read he).1

end Sys2Proof.Machine
end

section
/-! SUPPORT. The decoder in one equation over the opcode map, the encoder as its inverse on the words that select their
row, and the statements about the encoding (R101 to R112). -/

namespace Sys2Proof

/-! ### The opcode map (R108) -/

theorem rowOf_eq_some_of_mem : ∀ r ∈ opRows, rowOf r.op = some r := by decide

theorem mem_opRows_of_rowOf {op : OpCode} {r : OpRow} (h : rowOf op = some r) : r ∈ opRows ∧ r.op = op :=
  ⟨List.mem_of_find?_eq_some h, by simpa using List.find?_some h⟩

theorem selects_iff {w : Request} {r : OpRow} : selects w r = true ↔ w &&& r.mask = r.fixed := by
  rw [selects, beq_iff_eq]

theorem fixed_eq_op_shifted : ∀ r ∈ opRows, r.fixed = r.op.zeroExtend 64 <<< 59 := by decide

/-- A row's mask covers the operation code, so the match value fixes it. -/
theorem op_covered_by_mask :
    ∀ r ∈ opRows, r.mask.extractLsb' 59 5 = BitVec.allOnes 5 ∧ r.fixed.extractLsb' 59 5 = r.op := by decide

/-- Only the first five operations have operands; every bit of the other rows' words is fixed (R107). -/
theorem mask_full_or_operands : ∀ r ∈ opRows, r.mask = BitVec.allOnes 64 ∨ r ∈ opRows.take 5 := by decide

/-- Where the mask covers a field, a word that selects the row has the match value's field. -/
theorem field_of_masked {w fixed mask : Request} (h : w &&& mask = fixed) (start len : Nat)
    (hm : mask.extractLsb' start len = BitVec.allOnes len) : w.extractLsb' start len = fixed.extractLsb' start len := by
  rw [← h, BitVec.extractLsb'_and, hm, BitVec.and_allOnes]

theorem opField_of_masked {w : Request} {r : OpRow} (hr : r ∈ opRows) (h : w &&& r.mask = r.fixed) :
    opField w = r.op := by
  obtain ⟨hm, hf⟩ := op_covered_by_mask r hr
  rw [opField, field_of_masked h 59 5 hm, hf]

/-! ### The decoder in one equation -/

/-- The instruction of the word's operation code with the word's operand fields, whatever its unused bits hold. For an
undefined code the value is never read. -/
def instrOf (w : Request) : Instr :=
  match (opField w).toNat with
  | 0x01 => .crc8 (dataByte w 0) (dataByte w 1)
  | 0x02 => .validate (dataByte w 0) (dataByte w 1) (dataByte w 2)
  | 0x03 => .decode (dataByte w 0) (dataByte w 1) (dataByte w 2) (dataByte w 3) (dataByte w 4) (dataByte w 5)
  | 0x04 => .singleShot (repField w)
  | 0x05 => .startPeriodic (rateField w) (repField w)
  | 0x06 => .readData
  | 0x07 => .fetch
  | 0x08 => .startArt
  | 0x09 => .stop
  | 0x0A => .softReset
  | 0x0B => .status
  | 0x0C => .checkStatus
  | 0x0D => .serial
  | 0x0E => .heaterEn
  | 0x0F => .heaterDis
  | 0x10 => .clearStatus
  | _ => .close

/-- The decoder looks up the row of the word's operation code, and tests the word against its mask and match value. -/
theorem decodeRequest_eq (w : Request) :
    decodeRequest w =
      (rowOf (opField w)).elim (.bad .badOp) fun r => ifSelected w r.fixed r.mask (instrOf w) := by
  unfold decodeRequest instrOf
  generalize opField w = op
  obtain ⟨⟨n, hn⟩⟩ := op
  interval_cases n <;> rfl

theorem decodeRequest_of_row {w : Request} {r : OpRow} (h : rowOf (opField w) = some r) :
    decodeRequest w = ifSelected w r.fixed r.mask (instrOf w) := by
  rw [decodeRequest_eq, h, Option.elim_some]

/-- A word decodes to an instruction exactly where it selects a row, which is its operation code's. -/
theorem decodeRequest_eq_instr_iff {w : Request} {i : Instr} :
    decodeRequest w = .instr i ↔ (∃ r ∈ opRows, w &&& r.mask = r.fixed) ∧ instrOf w = i := by
  constructor
  · intro h
    cases hr : rowOf (opField w) with
    | none => simp [decodeRequest_eq, hr] at h
    | some r =>
      obtain ⟨hw, hi⟩ := ifSelected_eq_instr.mp (decodeRequest_of_row hr ▸ h)
      exact ⟨⟨r, (mem_opRows_of_rowOf hr).1, hw⟩, hi⟩
  · rintro ⟨⟨r, hr, hw⟩, hi⟩
    rw [decodeRequest_of_row (opField_of_masked hr hw ▸ rowOf_eq_some_of_mem r hr)]
    exact ifSelected_eq_instr.mpr ⟨hw, hi⟩

/-! ### The encoder -/

/-- The family `Selects`, for every instruction. -/
theorem encode_selects (i : Instr) : Laws.Selects.Statement i := by
  cases i with
  | crc8 => exact Laws.Selects.crc8 ..
  | validate => exact Laws.Selects.validate ..
  | decode => exact Laws.Selects.decode ..
  | singleShot => exact Laws.Selects.singleShot ..
  | startPeriodic => exact Laws.Selects.startPeriodic ..
  | readData => exact Laws.Selects.readData
  | fetch => exact Laws.Selects.fetch
  | startArt => exact Laws.Selects.startArt
  | stop => exact Laws.Selects.stop
  | softReset => exact Laws.Selects.softReset
  | status => exact Laws.Selects.status
  | checkStatus => exact Laws.Selects.checkStatus
  | serial => exact Laws.Selects.serial
  | heaterEn => exact Laws.Selects.heaterEn
  | heaterDis => exact Laws.Selects.heaterDis
  | clearStatus => exact Laws.Selects.clearStatus
  | close => exact Laws.Selects.close

/-- The six bytes of a packed word, each by its number (R106). -/
theorem dataBytes_packRequest (op : OpCode) (rate : BitVec 3) (rep : BitVec 2) (d0 d1 d2 d3 d4 d5 : Byte) :
    let w := packRequest op rate rep d0 d1 d2 d3 d4 d5
    dataByte w 0 = d0 ∧ dataByte w 1 = d1 ∧ dataByte w 2 = d2 ∧
      dataByte w 3 = d3 ∧ dataByte w 4 = d4 ∧ dataByte w 5 = d5 :=
  have h := dataByte_packRequest op rate rep d0 d1 d2 d3 d4 d5
  ⟨h 0, h 1, h 2, h 3, h 4, h 5⟩

/-- The operand fields of an instruction's word are its operands. -/
theorem instrOf_encode (i : Instr) : instrOf (encode i) = i := by
  cases i with
  | crc8 | validate | decode | singleShot | startPeriodic =>
    simp [instrOf, encode, Instr.opCode, dataBytes_packRequest]
  | _ => rfl

/-- Settles O1: the word of an instruction selects its row, and carries its operands in their fields. -/
theorem decodeOfEncode : Obligations.DecodeOfEncode := by
  intro i
  obtain ⟨-, r, hr, -, hs⟩ := encode_selects i
  exact decodeRequest_eq_instr_iff.mpr ⟨⟨r, hr, selects_iff.mp hs⟩, instrOf_encode i⟩

/-- A word whose reserved bits are 0 is its other fields, packed (R105). -/
theorem packRequest_fields {w : Request} (h : rsvdField w = 0) :
    packRequest (opField w) (rateField w) (repField w) (dataByte w 0) (dataByte w 1) (dataByte w 2) (dataByte w 3)
      (dataByte w 4) (dataByte w 5) = w := by
  rw [packRequest, ← h]
  exact (request_fields w).symm

/-- An operation without operands has one word, its row's match value. -/
theorem encode_instrOf_fixed : ∀ r ∈ opRows, r.mask = BitVec.allOnes 64 → encode (instrOf r.fixed) = r.fixed := by
  decide

/-- A word that selects a row holds 0 in every field its operation does not use, as the encoder does (R107, R112). -/
theorem encode_instrOf {w : Request} {r : OpRow} (hr : r ∈ opRows) (h : w &&& r.mask = r.fixed) :
    encode (instrOf w) = w := by
  have hop := opField_of_masked hr h
  obtain hm | hr' := mask_full_or_operands r hr
  · rw [hm, BitVec.and_allOnes] at h
    exact h ▸ encode_instrOf_fixed r hr hm
  · have hfield := field_of_masked h
    have hrsvd : rsvdField w = 0 := by fin_cases hr' <;> exact hfield 48 6 (by decide)
    refine Eq.trans ?_ (packRequest_fields hrsvd)
    -- Both sides are packed now; a field that is not copied is 0 on the left and covered by the mask on the right.
    fin_cases hr' <;> simp only [instrOf, hop, encode, Instr.opCode, BitVec.reduceToNat]
    all_goals congr 1 <;> exact Eq.symm (hfield _ _ (by decide))

/-- Settles O2: a word that decodes selects a row, and the encoder gives such a word back. -/
theorem encodeOfDecode : Obligations.EncodeOfDecode := by
  intro w i h
  obtain ⟨⟨r, hr, hw⟩, rfl⟩ := decodeRequest_eq_instr_iff.mp h
  exact encode_instrOf hr hw

/-! ### `legal` -/

/-- The checks of `legal` that are left once a word is an instruction's: its operand codes, `RATE` before `REP`
(R110). -/
def operandFault : Instr → Option ParamDetail
  | .singleShot rep => if rep = 3 then some .badRep else none
  | .startPeriodic rate rep => if 4 < rate.toNat then some .badRate else if rep = 3 then some .badRep else none
  | .crc8 _ _ | .validate _ _ _ | .decode _ _ _ _ _ _ | .readData | .fetch | .startArt | .stop | .softReset => none
  | .status | .checkStatus | .serial | .heaterEn | .heaterDis | .clearStatus | .close => none

theorem opField_encode (i : Instr) : opField (encode i) = i.opCode := (encode_selects i).1

/-- The word of an instruction passes the first two checks of `legal` (R110). -/
theorem row_of_encode (i : Instr) : ∃ r, rowOf i.opCode = some r ∧ selects (encode i) r = true := by
  obtain ⟨-, r, hr, hi, hs⟩ := encode_selects i
  exact ⟨r, hi ▸ rowOf_eq_some_of_mem r hr, hs⟩

theorem legal_encode (i : Instr) : legal (encode i) = operandFault i := by
  obtain ⟨r, hr, hs⟩ := row_of_encode i
  simp only [legal, opField_encode, hr, hs, Bool.true_eq_false, if_false]
  cases i with
  | singleShot | startPeriodic => simp [encode, operandFault, Instr.opCode]
  | _ => rfl

/-- Where the decoder refuses a word, `legal` refuses it by the same name (R109, R110). -/
theorem legal_of_bad {w : Request} {d : ParamDetail} (h : decodeRequest w = .bad d) :
    (d = .badOp ∨ d = .unusedField) ∧ legal w = some d := by
  cases hr : rowOf (opField w) with
  | none =>
    obtain rfl : ParamDetail.badOp = d := by simpa [decodeRequest_eq, hr] using h
    exact ⟨.inl rfl, by simp [legal, hr]⟩
  | some r =>
    obtain ⟨hw, rfl⟩ := ifSelected_eq_bad.mp (decodeRequest_of_row hr ▸ h)
    exact ⟨.inr rfl, by simp [legal, hr, selects, hw]⟩

theorem legal_of_instr {w : Request} {i : Instr} (h : decodeRequest w = .instr i) : legal w = operandFault i := by
  rw [← encodeOfDecode w i h, legal_encode]

/-- Settles O3: a word that decodes is an instruction's word, whose operand codes alone are left to check. -/
theorem legalIsDecodeThenOperandCodes : Obligations.LegalIsDecodeThenOperandCodes := by
  intro w
  cases h : decodeRequest w with
  | bad d => exact legal_of_bad h
  | instr i => cases i <;> exact legal_of_instr h

/-! ### Selection by mask and match -/

/-- Settles O4: the masked bits hold the operation code, so the word's own row is the only one it can select. -/
theorem wordSelectsByMaskAndMatch : Obligations.WordSelectsByMaskAndMatch := by
  intro r hr
  have hdecode {w : Request} (ho : opField w = r.op) : decodeRequest w = ifSelected w r.fixed r.mask (instrOf w) :=
    decodeRequest_of_row (ho ▸ rowOf_eq_some_of_mem r hr)
  refine ⟨fixed_eq_op_shifted r hr, fun w => ⟨⟨?_, fun h => ?_⟩, fun ho hne => ?_⟩⟩
  · rintro ⟨i, hi, hop⟩
    have ho : opField w = r.op := (opCode_of_decodeRequest hi).symm.trans hop
    exact (ifSelected_eq_instr.mp (hdecode ho ▸ hi)).1
  · have ho := opField_of_masked hr h
    have hi : decodeRequest w = .instr (instrOf w) := (hdecode ho).trans (ifSelected_eq_instr.mpr ⟨h, rfl⟩)
    exact ⟨instrOf w, hi, (opCode_of_decodeRequest hi).trans ho⟩
  · exact (hdecode ho).trans (ifSelected_eq_bad.mpr ⟨hne, rfl⟩)

/-- Settles O5: nine fixed words, each run through the decoder. -/
theorem specWordsDecode : Obligations.SpecWordsDecode := by
  unfold Obligations.SpecWordsDecode
  decide

end Sys2Proof
end

section
/-! SUPPORT. Where an operation raises a fault that is no transport error, and the statements about requests that
admission or a mode check refuses (R201, R281, R285, R287). -/

namespace Sys2Proof.Machine

/-! ### Operand codes that stand for nothing -/

theorem rateOfCode_eq_none {rate : BitVec 3} (h : 4 < rate.toNat) : rateOfCode rate = none :=
  Option.not_isSome_iff_eq_none.mp (by simp [rateOfCode_isSome, rateCodeOk, h])

theorem rateOfCode_eq_some {rate : BitVec 3} (h : rate.toNat ≤ 4) : ∃ f, rateOfCode rate = some f := by
  rw [← Option.isSome_iff_exists, rateOfCode_isSome]
  exact decide_eq_true h

/-- Settles O39: admission refuses the code before it looks at CLOSED, and no statement of the operation is reached. -/
theorem badOperandCodesAreInvalid : Obligations.BadOperandCodesAreInvalid := by
  intro s rate rep hs hl
  refine ⟨rejectRequest_eq 0x04 .badRep hs hl, fun hr => ?_, fun hr => ?_⟩
  · have he : exec (.startPeriodic rate rep) s = rejectRequest 0x05 .badRate s := by
      simp only [exec, execStartPeriodic, rateOfCode_eq_none hr]
    rw [he, rejectRequest_eq _ _ hs hl, takeFault_eq_faults]
  · obtain ⟨f, hf⟩ := rateOfCode_eq_some hr
    have he : exec (.startPeriodic rate 3) s = rejectRequest 0x05 .badRep s := by
      simp only [exec, execStartPeriodic, hf]
      rfl
    rw [he, rejectRequest_eq _ _ hs hl, takeFault_eq_faults]

/-! ### Where a fault is raised -/

/-- Wherever this flow raises, a bus transaction failed. -/
abbrev Flow.RaisesOnBus {α : Type} (f : Flow α) : Prop :=
  f.Meets false (fun _ _ => True) (fun d _ => ∃ e, d = .transport e)

/-- Wherever the flow of an operation that began in `s` raises, a bus transaction failed, or nothing has happened. -/
abbrev Flow.RaisesAtOnce {α : Type} (s : State) (f : Flow α) : Prop :=
  f.Meets false (fun _ _ => True) (fun d u => (∃ e, d = .transport e) ∨ u = s)

theorem raisesAtOnce_of_raisesOnBus {α : Type} {f : Flow α} {s : State} (h : f.RaisesOnBus) : f.RaisesAtOnce s :=
  h.mono (fun _ _ _ => trivial) fun _ _ => .inl

theorem command_raisesOnBus (key : CtKey) (us : Nat) (s : State) : (command key us s).RaisesOnBus := by
  obtain ⟨-, h⟩ | ⟨e, -, h⟩ | ⟨-, h⟩ := command_cases key us s <;> rw [h]
  · exact trivial
  · exact ⟨e, rfl⟩
  · exact rfl

theorem busRead_raisesOnBus (n : Nat) (s : State) : (busRead n s).RaisesOnBus := by
  obtain ⟨bs, -, -, h⟩ | ⟨a, e, -, -, h⟩ | ⟨-, h⟩ := busRead_cases n s <;> rw [h]
  · exact trivial
  · exact ⟨e, rfl⟩
  · exact rfl

theorem commandOnly_raisesOnBus (key : CtKey) (s : State) : (commandOnly key s).RaisesOnBus :=
  (command_raisesOnBus ..).bind fun _ _ _ => trivial

theorem readStatus_raisesOnBus (op : OpCode) (s : State) : (readStatus op s).RaisesOnBus :=
  (command_raisesOnBus ..).bind fun _ _ _ => (busRead_raisesOnBus ..).bind fun _ _ _ => trivial

theorem stopSampling_raisesOnBus (s : State) : (stopSampling s).RaisesOnBus := by
  unfold stopSampling
  split
  · exact trivial
  · exact (command_raisesOnBus ..).bind fun _ _ _ => trivial

theorem singleShotBody_raisesAtOnce (p : Rep) (s : State) : (singleShotBody p s).RaisesAtOnce s := by
  unfold singleShotBody
  split
  · exact .inr rfl
  · refine Flow.Meets.onRaise (E := fun d _ => ∃ e, d = .transport e) ?_ fun _ _ => .inl
    exact (command_raisesOnBus ..).bind fun _ _ _ => (busRead_raisesOnBus ..).bind fun _ _ _ => trivial

theorem startPeriodicBody_raisesAtOnce (r : Rate) (p : Rep) (s : State) :
    (startPeriodicBody r p s).RaisesAtOnce s := by
  unfold startPeriodicBody
  split
  · exact .inr rfl
  · exact raisesAtOnce_of_raisesOnBus ((command_raisesOnBus ..).bind fun _ _ _ => trivial)

/-! ### What a rejected request leaves of the bus log -/

/-- Where the operation that began in `s` ended in `t` with one of the faults that reject a request (R281, R287), it has
left `BUS_LOG` as it was. -/
def RejectsOffBus (s t : State) : Prop :=
  ∀ r : Response, t.rsp = some r → r.code ∈ [RspCode.configurationError, .invalidParameter, .usageFault] →
    t.busLog = s.busLog

section
variable {s t : State} {op : OpCode}

theorem responseOf_not_rejected (a : Answer) :
    (responseOf a).code ∉ [RspCode.configurationError, .invalidParameter, .usageFault] := by
  unfold responseOf
  split <;> simp

theorem busLog_takeFault (op : OpCode) (d : Detail) (s : State) : (s.takeFault op d).busLog = s.busLog := by
  simp [State.busLog, State.takeFault, faultEvent]

theorem closeOperation_rejectsOffBus {f : Flow Answer} (h : closeOperation op s f = .next t)
    (hf : f.RaisesAtOnce s) : RejectsOffBus s t := by
  obtain ⟨-, rfl, -⟩ := closeOperation_next h
  intro r hr hc
  cases f with
  | go a u =>
    obtain rfl : responseOf a = r := Option.some.inj hr
    exact absurd hc (responseOf_not_rejected a)
  | raise d u =>
    obtain ⟨e, rfl⟩ | rfl := hf
    · obtain rfl : _ = r := Option.some.inj hr
      simp [detailCode] at hc
    · exact busLog_takeFault ..
  | never => rfl

theorem admitRequest_raisesAtOnce (op : OpCode) (bad : Option ParamDetail) (s : State) :
    (admitRequest op bad s).Meets false (fun _ u => u = s) (fun d u => (∃ e, d = .transport e) ∨ u = s) := by
  obtain ⟨h, -⟩ | ⟨d, h, -⟩ := admit_cases op bad s <;> rw [h]
  · exact rfl
  · exact .inr rfl

theorem operation_rejectsOffBus {body : State → Flow Answer} (h : operation op s body = .next t)
    (hb : (body s).RaisesAtOnce s) : RejectsOffBus s t :=
  closeOperation_rejectsOffBus h ((admitRequest_raisesAtOnce ..).bind fun _ _ hu => hu ▸ hb)

theorem rejectRequest_rejectsOffBus {d : ParamDetail} (h : rejectRequest op d s = .next t) : RejectsOffBus s t :=
  closeOperation_rejectsOffBus h ((admitRequest_raisesAtOnce ..).bind fun _ _ _ => trivial)

theorem exec_rejectsOffBus {i : Instr} (h : exec i s = .next t) : RejectsOffBus s t := by
  cases i with
  | crc8 | validate | decode | close => exact operation_rejectsOffBus h trivial
  | singleShot rep =>
    simp only [exec, execSingleShot] at h
    split at h
    · exact rejectRequest_rejectsOffBus h
    · exact operation_rejectsOffBus h (singleShotBody_raisesAtOnce ..)
  | startPeriodic rate rep =>
    simp only [exec, execStartPeriodic] at h
    split at h
    · exact rejectRequest_rejectsOffBus h
    · exact rejectRequest_rejectsOffBus h
    · exact operation_rejectsOffBus h (startPeriodicBody_raisesAtOnce ..)
  | readData =>
    refine operation_rejectsOffBus h ?_
    split
    · exact .inr rfl
    · exact raisesAtOnce_of_raisesOnBus ((busRead_raisesOnBus ..).bind fun _ _ _ => trivial)
  | fetch =>
    refine operation_rejectsOffBus h ?_
    split
    · exact .inr rfl
    · exact raisesAtOnce_of_raisesOnBus (commandOnly_raisesOnBus ..)
  | startArt =>
    refine operation_rejectsOffBus h ?_
    split
    · exact .inr rfl
    · exact raisesAtOnce_of_raisesOnBus ((command_raisesOnBus ..).bind fun _ _ _ => trivial)
  | stop =>
    exact operation_rejectsOffBus h
      (raisesAtOnce_of_raisesOnBus ((stopSampling_raisesOnBus s).bind fun _ _ _ => trivial))
  | softReset =>
    exact operation_rejectsOffBus h
      (raisesAtOnce_of_raisesOnBus ((stopSampling_raisesOnBus s).bind fun _ _ _ => commandOnly_raisesOnBus ..))
  | status | checkStatus =>
    exact operation_rejectsOffBus h
      (raisesAtOnce_of_raisesOnBus ((readStatus_raisesOnBus _ s).bind fun _ _ _ => trivial))
  | serial =>
    exact operation_rejectsOffBus h (raisesAtOnce_of_raisesOnBus ((command_raisesOnBus ..).bind fun _ _ _ =>
      (busRead_raisesOnBus ..).bind fun _ _ _ => trivial))
  | heaterEn | heaterDis | clearStatus =>
    exact operation_rejectsOffBus h (raisesAtOnce_of_raisesOnBus (commandOnly_raisesOnBus ..))

end

/-- Settles O43: a request is rejected before its first transaction, so what it logs the bus does not see. -/
theorem rejectedRequestsTouchNoBus : Obligations.RejectedRequestsTouchNoBus :=
  fun _ _ _ r h => exec_rejectsOffBus h r

end Sys2Proof.Machine
end

section
/-! SUPPORT. The checksum as a code: a step loses nothing of the register, and over ZMod 2 it multiplies the register's
polynomial by X modulo the generator; with the statements of the Checksum Engine (R140 to R145). -/

namespace Sys2Proof.Machine

/-! ### Nothing of the register is lost -/

/-- Bit 0 of the polynomial 0x31 is set, so it keeps the bit that was shifted out. -/
theorem crcShift_getLsbD_zero (r : Byte) : (crcShift r).getLsbD 0 = r.getLsbD 7 := by
  cases h : r.getLsbD 7
  · rw [crcShift, h, if_neg Bool.false_ne_true]
    simp
  · rw [crcShift, h, if_pos rfl]
    simp

/-- A shift moves the seven lower bits up by one. -/
theorem getLsbD_shiftLeft_one {r : Byte} {i : Nat} (hi : i < 7) : (r <<< 1).getLsbD (i + 1) = r.getLsbD i := by
  rw [BitVec.getLsbD_shiftLeft, decide_eq_true (by omega : i + 1 < 8)]
  simp

theorem crcShift_eq_zero {r : Byte} (h : crcShift r = 0) : r = 0 := by
  have hout : r.getLsbD 7 = false := by rw [← crcShift_getLsbD_zero, h]; rfl
  rw [crcShift, hout, if_neg Bool.false_ne_true] at h
  refine BitVec.eq_of_getLsbD_eq fun i hi => ?_
  obtain rfl | hi7 := eq_or_ne i 7
  · exact hout
  · rw [← getLsbD_shiftLeft_one (by omega), h]
    simp

theorem crcShift_injective : Function.Injective crcShift := fun x y h =>
  BitVec.xor_eq_zero_iff.mp (crcShift_eq_zero (by rw [crcShift_xor, h, BitVec.xor_self]; rfl))

theorem repeat_crcShift_injective (n : Nat) : Function.Injective (Nat.repeat crcShift n) := by
  induction n with
  | zero => exact Function.injective_id
  | succ n ih => exact crcShift_injective.comp ih

/-- The eight steps answer alike exactly where they begin alike. -/
theorem crcByte_inj {r b r' b' : Byte} : crcByte r b = crcByte r' b' ↔ r ^^^ b = r' ^^^ b' :=
  (repeat_crcShift_injective 8).eq_iff

theorem crc8_pair (a b : Byte) : crc8 [a, b] = crcByte (crcByte 0xFF a) b := rfl

/-- Settles O7: an update loses neither the register nor the byte, so equal checksums of words that agree in one byte
leave nothing to differ in the other. -/
theorem checksumDetectsOneWrongByte : Obligations.ChecksumDetectsOneWrongByte := by
  intro a b a' b' h
  rw [crc8_pair, crc8_pair, crcByte_inj] at h
  constructor
  · rintro rfl
    exact (BitVec.xor_right_inj _).mp h
  · rintro rfl
    exact (BitVec.xor_right_inj _).mp (crcByte_inj.mp ((BitVec.xor_left_inj _).mp h))

/-! ### The register as a polynomial -/

section
open Polynomial

/-- A byte as a polynomial: bit i is the coefficient of X^i. -/
noncomputable def bytePoly (b : Byte) : (ZMod 2)[X] := ∑ i ∈ Finset.range 8, if b.getLsbD i then X ^ i else 0

/-- The generator of the code (R140, and the spec's note G1). -/
noncomputable def crcGenerator : (ZMod 2)[X] := X ^ 8 + X ^ 5 + X ^ 4 + 1

/-- The polynomial of bytes in order from the top. -/
noncomputable def messagePoly (bs : List Byte) : (ZMod 2)[X] := bs.foldl (fun p b => p * X ^ 8 + bytePoly b) 0

@[simp] theorem messagePoly_nil : messagePoly [] = 0 := rfl

theorem messagePoly_concat (bs : List Byte) (b : Byte) :
    messagePoly (bs ++ [b]) = messagePoly bs * X ^ 8 + bytePoly b := by
  simp [messagePoly]

theorem messagePoly_pair (a b : Byte) : messagePoly [a, b] = bytePoly a * X ^ 8 + bytePoly b := by
  simp [messagePoly]

/-- XOR is addition: coefficients are in ZMod 2. -/
theorem bytePoly_xor (x y : Byte) : bytePoly (x ^^^ y) = bytePoly x + bytePoly y := by
  rw [bytePoly, bytePoly, bytePoly, ← Finset.sum_add_distrib]
  refine Finset.sum_congr rfl fun i _ => ?_
  rw [BitVec.getLsbD_xor]
  cases x.getLsbD i <;> cases y.getLsbD i <;> simp [CharTwo.add_self_eq_zero]

/-- The eight low terms of the generator. -/
theorem bytePoly_0x31 : bytePoly 0x31 = X ^ 5 + X ^ 4 + 1 := by
  have hterms : bytePoly 0x31 = 1 + X ^ 4 + X ^ 5 := by simp [bytePoly, Finset.sum_range_succ]
  rw [hterms]
  ring

/-- A shift multiplies by X, but for the bit that it shifts out. -/
theorem bytePoly_shiftLeft (r : Byte) :
    bytePoly (r <<< 1) + (if r.getLsbD 7 then X ^ 8 else 0) = bytePoly r * X := by
  rw [bytePoly, bytePoly, Finset.sum_range_succ', Finset.sum_range_succ _ 7, add_mul, Finset.sum_mul]
  congr 1
  · have hlow : (r <<< 1).getLsbD 0 = false := by simp
    rw [hlow, if_neg Bool.false_ne_true, add_zero]
    refine Finset.sum_congr rfl fun i hi => ?_
    rw [getLsbD_shiftLeft_one (Finset.mem_range.mp hi), ite_mul, zero_mul, pow_succ]
  · rw [ite_mul, zero_mul, pow_succ]

theorem degree_bytePoly_lt (b : Byte) : (bytePoly b).degree < 8 := by
  refine mem_degreeLT.mp (Submodule.sum_mem _ fun i hi => mem_degreeLT.mpr ?_)
  split
  · rw [degree_X_pow]
    exact_mod_cast Finset.mem_range.mp hi
  · rw [degree_zero]
    exact WithBot.bot_lt_coe 8

theorem degree_crcGenerator : crcGenerator.degree = 8 := by
  unfold crcGenerator
  compute_degree!

theorem crcGenerator_monic : crcGenerator.Monic := by
  unfold crcGenerator
  monicity!

/-- The residue of a polynomial modulo the generator. -/
noncomputable abbrev residue : (ZMod 2)[X] →+* AdjoinRoot crcGenerator := AdjoinRoot.mk crcGenerator

/-- A step is a multiplication by X modulo the generator. -/
theorem residue_bytePoly_crcShift (r : Byte) :
    residue (bytePoly (crcShift r)) = residue (bytePoly r * X) := by
  rw [AdjoinRoot.mk_eq_mk, ← bytePoly_shiftLeft, crcShift]
  split
  · rw [bytePoly_xor, bytePoly_0x31, add_sub_add_left_eq_sub, CharTwo.sub_eq_add, crcGenerator]
    exact dvd_of_eq (by ring)
  · simp

theorem residue_bytePoly_repeat_crcShift (n : Nat) (r : Byte) :
    residue (bytePoly (Nat.repeat crcShift n r)) = residue (bytePoly r * X ^ n) := by
  induction n with
  | zero => simp [Nat.repeat]
  | succ n ih => rw [Nat.repeat, residue_bytePoly_crcShift, map_mul, ih, ← map_mul, mul_assoc, ← pow_succ]

theorem residue_bytePoly_crcByte (r b : Byte) :
    residue (bytePoly (crcByte r b)) = residue ((bytePoly r + bytePoly b) * X ^ 8) := by
  rw [crcByte_eq, residue_bytePoly_repeat_crcShift, bytePoly_xor]

theorem residue_bytePoly_crc8 (bs : List Byte) :
    residue (bytePoly (crc8 bs)) =
      residue (messagePoly bs * X ^ 8 + bytePoly 0xFF * X ^ (8 * bs.length)) := by
  induction bs using List.reverseRecOn with
  | nil => simp
  | append_singleton bs b ih =>
    rw [crc8_concat, residue_bytePoly_crcByte, map_mul, map_add, ih, ← map_add, ← map_mul, messagePoly_concat,
      List.length_append, List.length_singleton]
    exact congrArg _ (by ring)

/-- A byte is its own remainder, so what it is congruent to has it as the remainder. -/
theorem bytePoly_eq_modByMonic {b : Byte} {p : (ZMod 2)[X]}
    (h : residue (bytePoly b) = residue p) : bytePoly b = p %ₘ crcGenerator := by
  calc bytePoly b = bytePoly b %ₘ crcGenerator :=
        ((modByMonic_eq_self_iff crcGenerator_monic).mpr (degree_crcGenerator ▸ degree_bytePoly_lt b)).symm
    _ = p %ₘ crcGenerator := modByMonic_eq_of_dvd_sub crcGenerator_monic (AdjoinRoot.mk_eq_mk.mp h)

theorem bytePoly_crc8 (bs : List Byte) :
    bytePoly (crc8 bs) = (messagePoly bs * X ^ 8 + bytePoly 0xFF * X ^ (8 * bs.length)) %ₘ crcGenerator :=
  bytePoly_eq_modByMonic (residue_bytePoly_crc8 bs)

theorem bytePoly_crc8_pair (a b : Byte) :
    bytePoly (crc8 [a, b]) = ((bytePoly (a ^^^ 0xFF) * X ^ 8 + bytePoly b) * X ^ 8) %ₘ crcGenerator := by
  rw [bytePoly_crc8, bytePoly_xor, messagePoly_pair, show 8 * [a, b].length = 16 from rfl]
  exact congrArg (· %ₘ crcGenerator) (by ring)

end

/-- Settles O8: modulo the generator a step multiplies by X and a byte's XOR adds, by induction on the bytes; the
register's degree is below 8, so it is the remainder itself. -/
theorem checksumIsGeneratorRemainder : Obligations.ChecksumIsGeneratorRemainder :=
  ⟨bytePoly_crc8, bytePoly_crc8_pair⟩

/-! ### The two requests (R144, R145) -/

/-- In an open block, an operation whose statements come to their end responds in the state they left. -/
theorem operation_of_go (op : OpCode) {s t : State} {a : Answer} {body : State → Flow Answer} (h : s.Open)
    (hb : body s = .go a t) : operation op s body = .next (t.answers [] (responseOf a)) := by
  rw [operation_opened op body h, hb, closeOperation_of_ends op h.1 rfl, Flow.final_go, ← append_present,
    State.append_nil]

/-- Settles O9: the one statement of CRC8 runs the Checksum Engine, which writes `CRC_R` alone. -/
theorem crc8Completes : Obligations.Crc8Completes :=
  fun d0 d1 s h =>
    operation_of_go (t := s.checksum [d0, d1]) (a := ⟨.crc (crc8 [d0, d1]), []⟩) 0x01 h rfl

/-- Settles O10: the one statement of VALIDATE runs the Checksum Engine and compares; it reports no word. -/
theorem validateCompletes : Obligations.ValidateCompletes :=
  fun d0 d1 d2 s h =>
    operation_of_go (t := s.checksum [d0, d1]) (a := ⟨.matched (checkWord d0 d1 d2), []⟩) 0x02 h rfl

end Sys2Proof.Machine
end

section
/-! SUPPORT. The exact conversions: rounding to the nearest integer and its monotonicity, and the statements about the
temperature and the humidity (R163 to R166, R175). -/

namespace Sys2Proof.Machine

/-- The rounded quotient is within half a unit, the upper tie included (R164). -/
theorem roundQuotient_bounds (n : Int) {d : Nat} (hd : 0 < d) :
    2 * (d * roundQuotient n d) ≤ 2 * n + d ∧ 2 * n < 2 * (d * roundQuotient n d) + d := by
  have hq := Int.mul_ediv_add_emod (2 * n + d) (2 * d)
  have h0 := Int.emod_nonneg (2 * n + d) (b := 2 * d) (by omega)
  have h1 := Int.emod_lt_of_pos (2 * n + d) (b := 2 * d) (by omega)
  rw [mul_assoc] at hq
  unfold roundQuotient
  omega

/-- Over an odd divisor no quotient lies at a half, so rounding is strictly nearest (R164, R166). -/
theorem roundQuotient_nearest (n : Int) {d : Nat} (hd : Odd d) : 2 * |d * roundQuotient n d - n| < d := by
  obtain ⟨hlo, hhi⟩ := roundQuotient_bounds n hd.pos
  obtain ⟨k, hk⟩ := hd
  rcases abs_cases (d * roundQuotient n d - n) with ⟨h, -⟩ | ⟨h, -⟩ <;> omega

theorem roundQuotient_mono {n n' : Int} (h : n ≤ n') {d : Nat} (hd : 0 < d) :
    roundQuotient n d ≤ roundQuotient n' d :=
  Int.ediv_le_ediv (by omega) (by omega)

theorem roundQuotient_nonneg {n : Int} (h : 0 ≤ n) (d : Nat) : 0 ≤ roundQuotient n d :=
  Int.ediv_nonneg (by omega) (by omega)

/-- The rounded humidity is a rounded quotient: it is not negative (R165). -/
theorem humidityCenti_cast (raw : BitVec 16) :
    (humidityCenti raw : Int) = roundQuotient (10000 * (raw.toNat : Int)) 65535 :=
  Int.toNat_of_nonneg (roundQuotient_nonneg (by omega) _)

/-- Settles O11: 65535 is odd; the range is the one every decoded Reading has. -/
theorem temperatureIsNearest : Obligations.TemperatureIsNearest := by
  intro raw
  obtain ⟨-, hlo, hhi, -⟩ := makeReading_ok 0 (raw, false) (raw, false)
  exact ⟨roundQuotient_nearest _ (by decide), hlo, hhi⟩

theorem humidityMilli_eq_one_iff (raw : BitVec 16) : humidityMilli raw = 1 ↔ raw.toNat ≤ 3 := by
  refine ⟨fun h => ?_, humidityMilli_of_low⟩
  by_contra hr
  rw [humidityMilli_of_high (by omega)] at h
  omega

/-- Settles O12: 65535 is odd; the clamp and the range are the ones of `humidityMilli`'s closed form. -/
theorem humidityIsNearestThenClamped : Obligations.HumidityIsNearestThenClamped := by
  intro raw
  obtain ⟨-, -, -, -, hrange, -⟩ := makeReading_ok 0 (raw, false) (raw, false)
  refine ⟨⟨humidityCenti raw, ?_, rfl⟩, humidityMilli_eq_one_iff raw, hrange⟩
  rw [humidityCenti_cast]
  exact roundQuotient_nearest _ (by decide)

theorem temperatureC100_mono {a b : BitVec 16} (h : a.toNat ≤ b.toNat) : temperatureC100 a ≤ temperatureC100 b :=
  roundQuotient_mono (by omega) (by decide)

theorem humidityMilli_mono {a b : BitVec 16} (h : a.toNat ≤ b.toNat) : humidityMilli a ≤ humidityMilli b := by
  have hc : humidityCenti a ≤ humidityCenti b := Int.toNat_le_toNat (roundQuotient_mono (by omega) (by decide))
  unfold humidityMilli
  split <;> split <;> omega

/-- Settles O14: rounding is monotone and so is the clamp; the plateaus are the spec's own codes. -/
theorem conversionsAreMonotone : Obligations.ConversionsAreMonotone :=
  ⟨fun _ _ h => ⟨temperatureC100_mono h, humidityMilli_mono h⟩, rfl, rfl, fun _ => humidityMilli_of_low⟩

end Sys2Proof.Machine
end

section
/-! SUPPORT. The decoders word by word: tags, status flags, the serial number, and the request DECODE (R160 to R162,
R171 to R174). -/

namespace Sys2Proof.Machine

/-- A word's tag is set exactly where its checksum differs (R160). -/
theorem not_checkWord (a b c : Byte) : (!checkWord a b c) = decide (crc8 [a, b] ≠ c) := by
  rw [checkWord_eq, decide_not]

/-- Settles O17: each word is decoded by itself, from its own three bytes. -/
theorem faultIsolationPerWord : Obligations.FaultIsolationPerWord :=
  fun _ _ _ _ _ _ _ _ _ _ _ _ _ =>
    ⟨not_checkWord .., not_checkWord .., rfl, ⟨rfl, rfl, rfl⟩, ⟨rfl, rfl, rfl⟩⟩

/-- The sum over the table's positions is the number with those binary digits. -/
theorem statusFlags_eq_ofBits (order : StatusBitOrder) (w : BitVec 16) :
    statusFlags order w = BitVec.ofNat 7 (Nat.ofBits fun k : Fin 7 => srcBit order w flagPositions[k]) := by
  simp +arith [statusFlags, flagPositions, Nat.ofBits_succ]

/-- `FLAGS[k]` is the source bit of the table's k-th row (R171). -/
theorem getLsbD_statusFlags (order : StatusBitOrder) (w : BitVec 16) (k : Fin 7) :
    (statusFlags order w).getLsbD k = srcBit order w flagPositions[k] := by
  rw [statusFlags_eq_ofBits, BitVec.getLsbD_ofNat, Nat.testBit_ofBits_lt _ _ k.isLt]
  simp

/-- Settles O18: each flag is its source bit, whose place under the two orders the table gives. -/
theorem statusFlagsFollowTable : Obligations.StatusFlagsFollowTable := by
  intro msb lsb c order
  refine ⟨rfl, not_checkWord .., fun k => ?_⟩
  rw [show (decodeStatus order msb lsb c).flags = statusFlags order (msb ++ lsb) from rfl, getLsbD_statusFlags]
  cases order <;> fin_cases k <;> rfl

/-- `DEFAULT` flag by flag (R172). -/
theorem getLsbD_defaultFlags {cfg : Config} {rd : Bool} (h : cfg.statusDefaultRd = some rd) (k : Fin 7) :
    (defaultFlags cfg).getLsbD k = if k.val = 2 then rd else false := by
  unfold defaultFlags
  rw [h]
  clear h
  revert rd k
  decide

/-- Settles O19: the deviations are the flags XOR their defaults. -/
theorem deviationsFollowDefault : Obligations.DeviationsFollowDefault := by
  intro cfg flags rd h k
  rw [deviations, BitVec.getLsbD_xor, getLsbD_defaultFlags h]

/-- A byte appended below a word (R173). -/
theorem toNat_append_byte {n : Nat} (x : BitVec n) (b : Byte) : (x ++ b).toNat = x.toNat * 2 ^ 8 + b.toNat := by
  rw [BitVec.toNat_append, ← Nat.shiftLeft_add_eq_or_of_lt b.isLt, Nat.shiftLeft_eq]

/-- The serial number is its four data bytes in a row (R173). -/
theorem serialOf_sn (b0 b1 b2 b3 b4 b5 : Byte) :
    (serialOf [b0, b1, b2, b3, b4, b5]).sn = b0 ++ b1 ++ b3 ++ b4 := by
  apply BitVec.eq_of_getLsbD_eq
  intro i hi
  simp only [serialOf, byteAt, BitVec.getLsbD_or, BitVec.getLsbD_shiftLeft, BitVec.getLsbD_setWidth,
    BitVec.getLsbD_append]
  interval_cases i <;> simp

/-- Settles O20: concatenation is addition at the bytes' places. -/
theorem serialNumberAssembly : Obligations.SerialNumberAssembly := by
  intro b0 b1 b2 b3 b4 b5
  refine ⟨?_, not_checkWord .., not_checkWord ..⟩
  rw [serialOf_sn, toNat_append_byte, toNat_append_byte, toNat_append_byte]
  ring

theorem append_answers (es es' : List LogEvent) (r : Response) (s : State) :
    (s.append es).answers es' r = s.answers (es ++ es') r := by
  simp [State.append, State.answers]

/-- Settles O21: DECODE runs the engine over both words, then reports the Reading's failed words. -/
theorem decodeRequestCompletes : Obligations.DecodeRequestCompletes := by
  intro d0 d1 d2 d3 d4 d5 s h r ws
  refine (operation_of_go (t := ((s.checksum [d0, d1]).checksum [d3, d4]).report 0x03 (readingFaults r))
    (a := ⟨.reading r, readingFaults r⟩) 0x03 h rfl).trans ?_
  rw [State.report_eq, append_answers, List.append_nil, responseOf_eq, readingFaults_decodeFrame]
  rfl

end Sys2Proof.Machine
end

section
/-! SUPPORT. The Magnus formula as a function of the logarithm of the humidity: where no denominator is 0 it is increasing
and no steeper than a constant, so the narrow enclosure of the logarithm gives a narrow one of 100 dp; and the statements
about the dew point (R167, R168; assumption 4). -/

namespace Sys2Proof.Machine

/-! ### The formula over any field -/

section
variable {K : Type*} [Field K] {b lam tc l l' : K}

/-- The dew point of R168 in degC, for a value `l` of ln(rh / 100) and a temperature `tc` in degC. -/
def magnus (b lam tc l : K) : K := lam * (l + b * tc / (lam + tc)) / (b - (l + b * tc / (lam + tc)))

/-- The second denominator: what it is at saturation, less the logarithm. -/
theorem beta_sub_gamma (b l : K) (h : lam + tc ≠ 0) :
    b - (l + b * tc / (lam + tc)) = b * lam / (lam + tc) - l := by
  field_simp
  ring

/-- The logarithm occurs once, in a denominator. -/
theorem magnus_eq (h : lam + tc ≠ 0) (hl : b * lam / (lam + tc) - l ≠ 0) :
    magnus b lam tc l = lam * b / (b * lam / (lam + tc) - l) - lam := by
  have hgamma : l + b * tc / (lam + tc) = b - (b * lam / (lam + tc) - l) := by
    rw [← beta_sub_gamma b l h, sub_sub_cancel]
  rw [magnus, hgamma, sub_sub_cancel, mul_sub, sub_div, mul_div_cancel_right₀ _ hl]

theorem magnus_zero (hb : b ≠ 0) (hlam : lam ≠ 0) (h : lam + tc ≠ 0) : magnus b lam tc 0 = tc := by
  rw [magnus_eq h (by simp [hb, hlam, h]), sub_zero]
  field_simp
  ring

variable [LinearOrder K] [IsStrictOrderedRing K]

theorem magnus_lt_magnus (hb : 0 < b) (hlam : 0 < lam) (h : 0 < lam + tc) (hl : l < l') (hl' : l' ≤ 0) :
    magnus b lam tc l < magnus b lam tc l' := by
  have hc : 0 < b * lam / (lam + tc) := by positivity
  have hd' : 0 < b * lam / (lam + tc) - l' := by linarith
  rw [magnus_eq h.ne' (by linarith), magnus_eq h.ne' hd'.ne']
  gcongr

theorem magnus_sub_le (hb : 0 < b) (hlam : 0 < lam) (h : 0 < lam + tc) (hc : 1 ≤ b * lam / (lam + tc))
    (hl : l ≤ l') (hl' : l' ≤ 0) : magnus b lam tc l' - magnus b lam tc l ≤ lam * b * (l' - l) := by
  have hd : 1 ≤ b * lam / (lam + tc) - l := by linarith
  have hd' : 1 ≤ b * lam / (lam + tc) - l' := by linarith
  rw [magnus_eq h.ne' (by linarith), magnus_eq h.ne' (by linarith), sub_sub_sub_cancel_right,
    div_sub_div _ _ (by linarith) (by linarith)]
  calc _ = lam * b * (l' - l) / ((b * lam / (lam + tc) - l') * (b * lam / (lam + tc) - l)) := by ring
    _ ≤ lam * b * (l' - l) :=
      div_le_self (mul_nonneg (by positivity) (by linarith)) (one_le_mul_of_one_le_of_one_le hd' hd)

end

/-! ### The block's coefficients -/

theorem dewCenti_eq (t : Int) (l : Rat) :
    dewCenti t l = 100 * magnus (magnusBeta t) (magnusLambda t) ((t : Rat) / 100) l := rfl

theorem dewCenti_cast (t : Int) (l : Rat) :
    ((dewCenti t l : Rat) : ℝ) = 100 * magnus (magnusBeta t : ℝ) (magnusLambda t : ℝ) ((t : ℝ) / 100) (l : ℝ) := by
  rw [dewCenti_eq, magnus, magnus]
  push_cast
  rfl

/-- 100 dp over the reals (R168). -/
noncomputable def realDewCenti (t : Int) (m : Nat) : ℝ :=
  100 * magnus (magnusBeta t : ℝ) (magnusLambda t : ℝ) ((t : ℝ) / 100) (Real.log ((m : ℝ) / 1000 / 100))

theorem magnusBeta_cast (t : Int) : ((magnusBeta t : Rat) : ℝ) = if 0 ≤ t then 17.62 else 22.46 := by
  unfold magnusBeta
  split <;> norm_num

theorem magnusLambda_cast (t : Int) : ((magnusLambda t : Rat) : ℝ) = if 0 ≤ t then 243.12 else 272.62 := by
  unfold magnusLambda
  split <;> norm_num

theorem magnusBeta_bounds (t : Int) : 0 < magnusBeta t ∧ magnusBeta t ≤ 23 := by
  unfold magnusBeta
  split <;> norm_num

theorem magnusLambda_bounds (t : Int) : 0 < magnusLambda t ∧ magnusLambda t ≤ 273 := by
  unfold magnusLambda
  split <;> norm_num

section
variable {t : Int}

/-- Over water and over ice, in the block's range of temperatures neither denominator of the formula is near 0. -/
theorem magnus_denominators (h1 : -4500 ≤ t) (h2 : t ≤ 13000) :
    0 < magnusLambda t + (t : Rat) / 100 ∧
      1 ≤ magnusBeta t * magnusLambda t / (magnusLambda t + (t : Rat) / 100) := by
  have h1' : (-4500 : Rat) ≤ t := by exact_mod_cast h1
  have h2' : (t : Rat) ≤ 13000 := by exact_mod_cast h2
  have hpos : 0 < magnusLambda t + (t : Rat) / 100 := by
    unfold magnusLambda
    split <;> linarith
  refine ⟨hpos, (one_le_div hpos).mpr ?_⟩
  unfold magnusBeta magnusLambda
  split <;> linarith

theorem dewCenti_zero (h1 : -4500 ≤ t) (h2 : t ≤ 13000) : dewCenti t 0 = t := by
  rw [dewCenti_eq, magnus_zero (magnusBeta_bounds t).1.ne' (magnusLambda_bounds t).1.ne'
    (magnus_denominators h1 h2).1.ne']
  ring

/-- At 100 % the enclosure is a point, which rounds either way to itself. -/
theorem dewPoint_saturated (numerics : Nat) (h1 : -4500 ≤ t) (h2 : t ≤ 13000) : dewPoint numerics t 100000 = t := by
  have he : dewEnclosure t 100000 = ⟨t, t⟩ := by
    rw [dewEnclosure, logHumidity_saturated, dewCenti_zero h1 h2]
  rw [dewPoint, he]
  simpa using neighbour_point (t : Rat) (Config.dewPointRoundsUp numerics t 100000)

/-- The enclosure of 100 dp is narrower than 1. -/
theorem dewEnclosure_width (h1 : -4500 ≤ t) (h2 : t ≤ 13000) {m : Nat} (hm1 : 1 ≤ m) (hm2 : m < 100000) :
    (dewEnclosure t m).hi - (dewEnclosure t m).lo < 1 := by
  obtain ⟨hb, hb'⟩ := magnusBeta_bounds t
  obtain ⟨hlam, hlam'⟩ := magnusLambda_bounds t
  obtain ⟨hpos, hc⟩ := magnus_denominators h1 h2
  have hw := logHumidity_width hm1 hm2.le
  have hlt : (logHumidity m).lo < (logHumidity m).hi := by
    obtain ⟨hlo, hhi⟩ := logHumidity_encloses hm1 hm2
    exact_mod_cast hlo.trans hhi
  have hd := magnus_sub_le hb hlam hpos hc hlt.le (logHumidity_hi_le hm1 hm2.le)
  have hk : magnusLambda t * magnusBeta t * ((logHumidity m).hi - (logHumidity m).lo) ≤ 273 * 23 * (17 / 10 ^ 22) := by
    have := sub_nonneg.mpr hlt.le
    gcongr
  simp only [dewEnclosure, dewCenti_eq]
  linarith

/-- 100 dp over the reals lies strictly inside its enclosure. -/
theorem dewEnclosure_encloses (h1 : -4500 ≤ t) (h2 : t ≤ 13000) {m : Nat} (hm1 : 1 ≤ m) (hm2 : m < 100000) :
    ((dewEnclosure t m).lo : ℝ) < realDewCenti t m ∧ realDewCenti t m < ((dewEnclosure t m).hi : ℝ) := by
  have hb : (0 : ℝ) < magnusBeta t := by exact_mod_cast (magnusBeta_bounds t).1
  have hlam : (0 : ℝ) < magnusLambda t := by exact_mod_cast (magnusLambda_bounds t).1
  have hpos : (0 : ℝ) < magnusLambda t + (t : ℝ) / 100 := by exact_mod_cast (magnus_denominators h1 h2).1
  have hle : ((logHumidity m).hi : ℝ) ≤ 0 := by exact_mod_cast logHumidity_hi_le hm1 hm2.le
  obtain ⟨hlo, hhi⟩ := logHumidity_encloses hm1 hm2
  simp only [dewEnclosure, dewCenti_cast, realDewCenti]
  constructor
  · gcongr
    exact magnus_lt_magnus hb hlam hpos hlo (hhi.le.trans hle)
  · gcongr
    exact magnus_lt_magnus hb hlam hpos hhi hle

/-- The dew point is next to the value of the formula, whichever way the evaluation rounds. -/
theorem dewPoint_next_to_realDewCenti (numerics : Nat) (h1 : -4500 ≤ t) (h2 : t ≤ 13000) {m : Nat} (hm1 : 1 ≤ m)
    (hm2 : m ≤ 100000) :
    dewPoint numerics t m = ⌊realDewCenti t m⌋ ∨ dewPoint numerics t m = ⌈realDewCenti t m⌉ := by
  obtain rfl | hm := hm2.eq_or_lt
  · have hx : realDewCenti t 100000 = t := by
      have hlog : Real.log (((100000 : Nat) : ℝ) / 1000 / 100) = ((0 : Rat) : ℝ) := by norm_num
      rw [realDewCenti, hlog, ← dewCenti_cast, dewCenti_zero h1 h2, Rat.cast_intCast]
    rw [hx, Int.floor_intCast]
    exact .inl (dewPoint_saturated numerics h1 h2)
  · obtain ⟨hlo, hhi⟩ := dewEnclosure_encloses h1 h2 hm1 hm
    exact neighbour_of_mem _ hlo hhi (dewEnclosure_width h1 h2 hm1 hm)

end

/-- Settles O16: at 100 % the enclosure of the logarithm is the point 0, where the formula gives the temperature. -/
theorem dewPointAtSaturation : Obligations.DewPointAtSaturation := fun numerics _ => dewPoint_saturated numerics

/-- Settles O15: the enclosure of 100 dp holds the real value and is narrower than 1, and at 100 % both are the
temperature; the second denominator is its value at saturation less a logarithm that is at most 0. -/
theorem dewPointIsNextToMagnus : Obligations.DewPointIsNextToMagnus := by
  intro numerics t m h1 h2 hm1 hm2
  rw [← magnusBeta_cast, ← magnusLambda_cast]
  intro beta lam tc gamma dp
  obtain ⟨hpos, hc⟩ := magnus_denominators h1 h2
  have hpos : 0 < lam + tc := by simp only [lam, tc]; exact_mod_cast hpos
  have hc : 1 ≤ beta * lam / (lam + tc) := by simp only [beta, lam, tc]; exact_mod_cast hc
  have hlog : Real.log ((m : ℝ) / 1000 / 100) ≤ 0 := by
    have hm : (m : ℝ) ≤ 100000 := by exact_mod_cast hm2
    exact Real.log_nonpos (by positivity) (by linarith)
  refine ⟨dewPoint_next_to_realDewCenti numerics h1 h2 hm1 hm2, hpos.ne', by linarith, ?_⟩
  rw [beta_sub_gamma _ _ hpos.ne']
  linarith

end Sys2Proof.Machine
end

section
/-! SUPPORT. How the operation of an open block ends, read off the flow of its statements; and the measurement and mode
operations with the arrows of `MODE` (R200 to R210). -/

namespace Sys2Proof.Machine

/-! ### The arrows of `MODE` -/

/-- An arrow that changes `MODE` leads from Idle by its own operation, or to Idle by STOP or SOFT_RESET (R200). -/
theorem ModeArrow.of_ne {i : Instr} {m m' : Mode} (h : ModeArrow i m m') (hne : m' ≠ m) :
    (m = .idle ∧ ((∃ rate rep f, i = .startPeriodic rate rep ∧ rateOfCode rate = some f ∧ m' = .periodic f) ∨
      (i = .startArt ∧ m' = .acceleratedResponse))) ∨
    (m ≠ .idle ∧ m' = .idle ∧ (i = .stop ∨ i = .softReset)) := by
  cases h with
  | startPeriodic hr => exact .inl ⟨rfl, .inl ⟨_, _, _, rfl, hr, rfl⟩⟩
  | startArt => exact .inl ⟨rfl, .inr ⟨rfl, rfl⟩⟩
  | stop => exact .inr ⟨hne.symm, rfl, .inl rfl⟩
  | softReset => exact .inr ⟨hne.symm, rfl, .inr rfl⟩

/-- Settles O47: an operation keeps `MODE` or follows an arrow. -/
theorem modeFollowsItsArrows : Obligations.ModeFollowsItsArrows := by
  intro i s t h hne
  obtain e | ⟨-, arrow⟩ := (exec_ends h).mode
  · exact absurd e hne
  · exact arrow.of_ne hne

/-! ### The end of an operation of an open block -/

section
variable {s t : State} {body : State → Flow Answer} {es : List LogEvent}

/-- In an open block, an operation whose statements raise a fault takes it where they raised it. -/
theorem operation_of_raise (op : OpCode) {d : Detail} (h : s.Open) (hb : body s = .raise d t) :
    operation op s body = .next (t.takeFault op d) := by
  rw [operation_opened op body h, hb, closeOperation_of_ends op h.1 rfl, Flow.final_raise]

theorem operation_faults (op : OpCode) {d : Detail} (h : s.Open) (hb : body s = .raise d (t.append es)) :
    operation op s body = .next (t.faults op d es) := by
  rw [operation_of_raise op h hb, append_takeFault]

theorem operation_answers (op : OpCode) {p : Payload} {ws : List WordName} (h : s.Open)
    (hb : body s = .go ⟨p, ws⟩ (t.append es)) :
    operation op s body = .next (t.answers es (reportedResponse ws p)) := by
  rw [operation_of_go op h hb, append_answers, List.append_nil, responseOf_eq]

/-- The plain response of an operation with no payload and nothing to report. -/
theorem operation_answers_ok (op : OpCode) (h : s.Open) (hb : body s = .go ⟨.empty, []⟩ (t.append es)) :
    operation op s body = .next (t.answers es ⟨.ok, none, .empty⟩) :=
  operation_answers op h hb

end

/-! ### The two operations with operand codes -/

theorem exec_singleShot {rep : BitVec 2} {p : Rep} (s : State) (hp : repOfCode rep = some p) :
    exec (.singleShot rep) s = operation 0x04 s (singleShotBody p) := by
  simp only [exec, execSingleShot, hp]

theorem exec_startPeriodic {rate : BitVec 3} {rep : BitVec 2} {f : Rate} {p : Rep} (s : State)
    (hf : rateOfCode rate = some f) (hp : repOfCode rep = some p) :
    exec (.startPeriodic rate rep) s = operation 0x05 s (startPeriodicBody f p) := by
  simp only [exec, execStartPeriodic, hf, hp]

theorem repOfCode_eq_some {rep : BitVec 2} (h : repCodeOk rep = true) : ∃ p, repOfCode rep = some p := by
  rwa [← Option.isSome_iff_exists, repOfCode_isSome]

/-- The repeatability and the settle time of each legal code (R104, R202). -/
theorem repOfCode_and_settleFor_of_mem {rep : BitVec 2} {p : Rep} {us : Nat}
    (h : (rep, p, us) ∈ [((0 : BitVec 2), Rep.high, 16000), (1, .medium, 7000), (2, .low, 5000)]) :
    repOfCode rep = some p ∧ settleFor p = us := by
  have hall : ∀ x ∈ [((0 : BitVec 2), Rep.high, 16000), (1, .medium, 7000), (2, .low, 5000)],
      repOfCode x.1 = some x.2.1 ∧ settleFor x.2.1 = x.2.2 := by decide
  exact hall _ h

/-! ### The wrong mode (R201, R206, R207) -/

/-- Settles O36: the check of `MODE` is the first statement of each of the five, so the fault is raised in the state
that admission passed on. -/
theorem modeConflictsAreRefused : Obligations.ModeConflictsAreRefused := by
  intro s i h hw hc
  obtain ⟨hm, ⟨rep, rfl⟩ | ⟨rate, rep, rfl⟩ | rfl⟩ | ⟨hm, rfl | rfl⟩ := hc
  · obtain ⟨p, hp⟩ := repOfCode_eq_some hw
    rw [exec_singleShot s hp]
    exact operation_of_raise 0x04 h (if_pos hm)
  · obtain ⟨hrate, hrep⟩ := Bool.and_eq_true_iff.mp hw
    obtain ⟨f, hf⟩ := rateOfCode_eq_some (of_decide_eq_true hrate)
    obtain ⟨p, hp⟩ := repOfCode_eq_some hrep
    rw [exec_startPeriodic s hf hp]
    exact operation_of_raise 0x05 h (if_pos hm)
  · exact operation_of_raise 0x08 h (if_pos hm)
  · exact operation_of_raise 0x06 h (if_pos (by rw [hm]; rfl))
  · exact operation_of_raise 0x07 h (if_pos (by rw [hm]; rfl))

/-! ### Commands that enter and leave a mode, and FETCH -/

/-- An operation whose statements are one command and, where it was acknowledged, the write of `MODE` (R205, R208). -/
theorem operation_enters_mode {s : State} {body : State → Flow Answer} {key : CtKey} {us : Nat} {m : Mode} (op : OpCode)
    (h : s.Open) (hb : body s = (command key us s).bind fun _ t => .go ⟨.empty, []⟩ (t.setMode m)) :
    (s.nextWriteAnswer = some .ack →
      operation op s body =
        .next ({ s.consumeWrite with mode := m }.answers (commandEvents s.config key us) ⟨.ok, none, .empty⟩)) ∧
    (∀ e, s.nextWriteAnswer = some (.err e) →
      operation op s body = .next (s.consumeWrite.faults op (.transport e) (failedCommand s.config key e))) := by
  refine ⟨fun hw => operation_answers_ok op h ?_, fun e hw => operation_faults op h ?_⟩
  · rw [hb, command_ack _ _ hw]
    rfl
  · rw [hb, command_err _ _ hw]
    rfl

/-- Settles O24: START_PERIODIC from Idle passes its mode check and enters Periodic. -/
theorem startPeriodicCompletes : Obligations.StartPeriodicCompletes := by
  intro s rate rep f p h hm hf hp
  rw [exec_startPeriodic s hf hp]
  exact operation_enters_mode 0x05 h (if_neg (not_not.mpr hm))

/-- Settles O25: START_ART from Idle passes its mode check and enters AcceleratedResponse. -/
theorem startArtCompletes : Obligations.StartArtCompletes :=
  fun _ h hm => operation_enters_mode 0x08 h (if_neg (not_not.mpr hm))

theorem sampling_ne_false {m : Mode} (h : (∃ f, m = .periodic f) ∨ m = .acceleratedResponse) :
    ¬ m.sampling = false := by
  simp [sampling_iff.mpr h]

/-- Settles O27: while sampling FETCH is its command alone. -/
theorem fetchCompletes : Obligations.FetchCompletes := by
  intro s h hm
  have hs := sampling_ne_false hm
  exact ⟨fun hw => operation_answers_ok 0x07 h ((if_neg hs).trans (commandOnly_ack _ hw)),
    fun e hw => operation_faults 0x07 h ((if_neg hs).trans (commandOnly_err _ hw))⟩

/-- Settles O28: STOP is the stop that SOFT_RESET shares, with a plain response. -/
theorem stopCompletes : Obligations.StopCompletes := by
  intro s h
  refine ⟨fun hm => operation_of_go (a := ⟨.empty, []⟩) 0x09 h ?_, fun hm hw => operation_answers_ok 0x09 h ?_,
    fun e hm hw => operation_faults 0x09 h ?_⟩
  · rw [stopSampling_idle hm]
    rfl
  · rw [stopSampling_ack hm hw]
    rfl
  · rw [stopSampling_err hm hw]
    rfl

/-! ### Operations that read a measurement frame -/

/-- A frame read that succeeds: whatever follows gets the Reading of its six bytes, in the state that holds it. -/
theorem busRead_keepReading {s : State} {b0 b1 b2 b3 b4 b5 : Byte} {β : Type} (k : Reading → State → Flow β)
    (h : s.nextReadAnswer = some (.data [b0, b1, b2, b3, b4, b5])) :
    let bs := [b0, b1, b2, b3, b4, b5]
    let r := decodeFrame s.config.numerics bs
    ((busRead 6 s).bind fun bs u => k (decodeFrame u.config.numerics bs) (keepReading bs u)) =
      k r ({ s.consumeRead with
        crcR := crc8 [b3, b4], frame := #v[b0, b1, b2, b3, b4, b5], lastReading := some r }.append
        (readEvents s.config 6 (.data bs))) := by
  intro bs r
  rw [busRead_data (n := 6) h rfl, Flow.bind_go, fillFrame_six]
  rfl

theorem answerReading_append (op : OpCode) (r : Reading) (es : List LogEvent) (s : State) :
    answerReading op r (s.append es) =
      .go ⟨.reading r, readingFaults r⟩ (s.append (es ++ reportEvents op (readingFaults r))) := by
  rw [answerReading, State.report_eq, State.append_append]
  rfl

/-- Settles O26: while sampling READ_DATA is one frame read. -/
theorem readDataCompletes : Obligations.ReadDataCompletes := by
  intro s h hm
  have hs := sampling_ne_false hm
  refine ⟨fun b0 b1 b2 b3 b4 b5 hr => operation_answers 0x06 h ((if_neg hs).trans ?_),
    fun a e hr ha => operation_faults 0x06 h ((if_neg hs).trans ?_)⟩
  · rw [busRead_keepReading (answerReading 0x06) hr, answerReading_append]
  · rw [busRead_fails hr ha]
    rfl

/-- Putting a mode back in a state that differs from `t` in `MODE` only gives `t`. -/
theorem setMode_eq_of_mode {s t : State} {m : Mode} (ht : t.mode = m) (h : s.setMode m = t.setMode m) :
    s.setMode m = t := by
  subst ht
  exact h

/-- From Idle SINGLE_SHOT is its command and a frame read, under its own mode; any fault puts Idle back (R204). -/
theorem singleShotBody_idle {s : State} (p : Rep) (h : s.mode = .idle) :
    singleShotBody p s = Flow.onRaise (State.setMode .idle)
      ((command (.singleShot p) (settleFor p) (s.setMode .singleShot)).bind fun _ t =>
        (busRead 6 t).bind fun bs u =>
          answerReading 0x04 (decodeFrame u.config.numerics bs) ((keepReading bs u).setMode .idle)) :=
  if_neg (not_not.mpr h)

/-- Settles O23: both transactions raise under SINGLE_SHOT's own mode, and the `on raise` clause puts back the Idle it
began in. -/
theorem singleShotTransportErrors : Obligations.SingleShotTransportErrors := by
  intro s rep p h hm hp
  rw [exec_singleShot s hp]
  refine ⟨fun e hw => operation_faults 0x04 h ?_, fun a e hw hr ha => operation_faults 0x04 h ?_⟩
  · rw [singleShotBody_idle p hm, command_err (s := s.setMode .singleShot) _ _ hw]
    exact congrArg (Flow.raise _) (setMode_eq_of_mode hm rfl)
  · rw [singleShotBody_idle p hm, command_ack (s := s.setMode .singleShot) _ _ hw, Flow.bind_go,
      busRead_fails (s := (s.setMode .singleShot).consumeWrite.append _) hr ha, ← State.append_append]
    exact congrArg (Flow.raise _) (setMode_eq_of_mode hm rfl)

/-- Settles O22: the command, then a frame read, after which `MODE` is Idle as it was before. -/
theorem singleShotCompletes : Obligations.SingleShotCompletes := by
  intro s b0 b1 b2 b3 b4 b5 rep p us h hm hmem hw hr bs r
  obtain ⟨hp, rfl⟩ := repOfCode_and_settleFor_of_mem hmem
  rw [exec_singleShot s hp]
  refine operation_answers 0x04 h ?_
  rw [singleShotBody_idle p hm, command_ack (s := s.setMode .singleShot) _ _ hw, Flow.bind_go,
    busRead_keepReading (s := (s.setMode .singleShot).consumeWrite.append _)
      (fun r u => answerReading 0x04 r (u.setMode .idle)) hr, ← answerReading_append,
    ← State.append_append]
  exact congrArg (answerReading 0x04 r) (setMode_eq_of_mode hm rfl)

end Sys2Proof.Machine
end

section
/-! SUPPORT. The device-control operations (R240 to R247): a command alone, a command with a read behind it, and the
stop that SOFT_RESET puts before its command. -/

namespace Sys2Proof.Machine

/-! ### One command -/

/-- An operation whose statements are one command with its settle (R244 to R246; SOFT_RESET from Idle, R240). -/
theorem operation_commandOnly {s : State} {body : State → Flow Answer} {key : CtKey} (op : OpCode) (h : s.Open)
    (hb : body s = commandOnly key s) :
    (s.nextWriteAnswer = some .ack →
      operation op s body =
        .next (s.consumeWrite.answers (commandEvents s.config key s.config.tCmdSettleUs) ⟨.ok, none, .empty⟩)) ∧
    (∀ e, s.nextWriteAnswer = some (.err e) →
      operation op s body = .next (s.consumeWrite.faults op (.transport e) (failedCommand s.config key e))) :=
  ⟨fun hw => operation_answers_ok op h (hb.trans (commandOnly_ack _ hw)),
    fun _ hw => operation_faults op h (hb.trans (commandOnly_err _ hw))⟩

/-- Settles O34: each of the three is its one command, and none looks at `MODE`. -/
theorem heaterAndClearStatusComplete : Obligations.HeaterAndClearStatusComplete := by
  intro s i key h hi
  simp only [List.mem_cons, List.not_mem_nil, or_false, Prod.mk.injEq] at hi
  obtain ⟨rfl, rfl⟩ | ⟨rfl, rfl⟩ | ⟨rfl, rfl⟩ := hi
  · exact operation_commandOnly 0x0E h rfl
  · exact operation_commandOnly 0x0F h rfl
  · exact operation_commandOnly 0x10 h rfl

/-! ### SOFT_RESET (R240) -/

/-- Settles O29: from Idle it is the reset command alone; from any other mode the stop fails, or the reset command runs
in the Idle state that the stop left. -/
theorem softResetCompletes : Obligations.SoftResetCompletes := by
  intro s h us stopped
  have idle (hm : s.mode = .idle) :=
    operation_commandOnly (body := fun t => (stopSampling t).bind fun _ u => commandOnly .softReset u) 0x0A h
      (by rw [stopSampling_idle hm, Flow.bind_go])
  refine ⟨fun hm => (idle hm).1, fun hm hw hw' => operation_answers_ok 0x0A h ?_,
    fun e hm hw => operation_faults 0x0A h ?_, fun e hm hw hw' => operation_faults 0x0A h ?_,
    fun e hm => (idle hm).2 e⟩
  · rw [stopSampling_ack hm hw, Flow.bind_go,
      commandOnly_ack (s := (s.consumeWrite.append stopped).setMode .idle) _ hw', ← State.append_append]
    rfl
  · rw [stopSampling_err hm hw, Flow.bind_raise]
  · rw [stopSampling_ack hm hw, Flow.bind_go,
      commandOnly_err (s := (s.consumeWrite.append stopped).setMode .idle) _ hw', ← State.append_append]
    rfl

/-! ### A command and a read -/

/-- A command and the read behind it, both answered as asked: whatever follows gets the bytes, in the state whose frame
they fill (R74, R75). -/
theorem command_busRead_data {s : State} {key : CtKey} {us n : Nat} {bs : List Byte} {β : Type}
    (k : List Byte → State → Flow β) (hw : s.nextWriteAnswer = some .ack) (hr : s.nextReadAnswer = some (.data bs))
    (hn : bs.length = n) :
    ((command key us s).bind fun _ t => (busRead n t).bind k) =
      k bs ((s.consumeWrite.consumeRead.fillFrame bs).append
        (commandEvents s.config key us ++ readEvents s.config n (.data bs))) := by
  rw [command_ack _ _ hw, Flow.bind_go, busRead_data (s := s.consumeWrite.append _) hr hn, Flow.bind_go,
    ← State.append_append]
  rfl

/-- The transport errors of an operation that begins with a command and a read (R75). -/
theorem operation_command_busRead_faults {s : State} {body : State → Flow Answer} {key : CtKey} {us n : Nat}
    {k : List Byte → State → Flow Answer} (op : OpCode) (h : s.Open)
    (hb : body s = (command key us s).bind fun _ t => (busRead n t).bind k) :
    (∀ e, s.nextWriteAnswer = some (.err e) →
      operation op s body = .next (s.consumeWrite.faults op (.transport e) (failedCommand s.config key e))) ∧
    (∀ a e, s.nextWriteAnswer = some .ack → s.nextReadAnswer = some a → ReadAnswer.Fails a n e →
      operation op s body =
        .next (s.consumeWrite.consumeRead.faults op (.transport e)
          (commandEvents s.config key us ++ readEvents s.config n a))) := by
  refine ⟨fun e hw => operation_faults op h ?_, fun a e hw hr ha => operation_faults op h ?_⟩
  · rw [hb, command_err _ _ hw, Flow.bind_raise]
  · rw [hb, command_ack _ _ hw, Flow.bind_go, busRead_fails (s := s.consumeWrite.append _) hr ha, Flow.bind_raise,
      ← State.append_append]
    rfl

/-- What follows a status read follows its two transactions. -/
theorem readStatus_bind (op : OpCode) (s : State) {β : Type} (k : StatusRegister → State → Flow β) :
    (readStatus op s).bind k = (command .status s.config.tCmdSettleUs s).bind fun _ t => (busRead 3 t).bind fun bs u =>
      k (decodeStatus u.config.statusBitOrder (byteAt bs 0) (byteAt bs 1) (byteAt bs 2))
        ((u.checksum [byteAt bs 0, byteAt bs 1]).report op
          (statusFaults (decodeStatus u.config.statusBitOrder (byteAt bs 0) (byteAt bs 1) (byteAt bs 2)))) := by
  simp only [readStatus, Flow.bind_assoc, Flow.bind_go]

/-- Settles O33: the three begin with a command and a read, and raise the fault of the one that failed. -/
theorem deviceReadTransportErrors : Obligations.DeviceReadTransportErrors := by
  intro s i key n h hi
  simp only [List.mem_cons, List.not_mem_nil, or_false, Prod.mk.injEq] at hi
  obtain ⟨rfl, rfl, rfl⟩ | ⟨rfl, rfl, rfl⟩ | ⟨rfl, rfl, rfl⟩ := hi
  · exact operation_command_busRead_faults 0x0B h (readStatus_bind ..)
  · exact operation_command_busRead_faults 0x0C h (readStatus_bind ..)
  · exact operation_command_busRead_faults 0x0D h rfl

/-! ### The status register and the serial number -/

/-- A status read that succeeds gives the decoded register, with its report behind the two transactions. -/
theorem readStatus_data {s : State} {b0 b1 b2 : Byte} (op : OpCode) (hw : s.nextWriteAnswer = some .ack)
    (hr : s.nextReadAnswer = some (.data [b0, b1, b2])) :
    let r := decodeStatus s.config.statusBitOrder b0 b1 b2
    readStatus op s = .go r
      ({ s.consumeWrite.consumeRead with
          crcR := crc8 [b0, b1], frame := #v[b0, b1, b2, s.frame[3], s.frame[4], s.frame[5]] }.append
        (commandEvents s.config .status s.config.tCmdSettleUs ++ readEvents s.config 3 (.data [b0, b1, b2]) ++
          reportEvents op (statusFaults r))) := by
  intro r
  rw [readStatus, command_busRead_data (n := 3) _ hw hr rfl, fillFrame_three,
    ← State.append_append _ _ (reportEvents ..)]
  rfl

/-- Settles O30: the status read, whose register is the answer. -/
theorem statusCompletes : Obligations.StatusCompletes := by
  intro s b0 b1 b2 h hw hr r ws
  have hws : statusFaults r = ws := statusFaults_decodeStatus ..
  rw [← hws]
  refine operation_answers 0x0B h ?_
  rw [readStatus_data 0x0B hw hr]
  rfl

/-- Settles O31: the status read, then the warnings behind its report. -/
theorem checkStatusCompletes : Obligations.CheckStatusCompletes := by
  intro s b0 b1 b2 h hw hr r dev ws warned
  have hws : statusFaults r = ws := statusFaults_decodeStatus ..
  have hwarned : (warnings r.flags dev).map .sink = warned := map_sink_warnings ..
  rw [← hws, ← hwarned]
  refine operation_answers 0x0C h ?_
  rw [readStatus_data 0x0C hw hr, Flow.bind_go, State.append_append]
  rfl

/-- Settles O32: the command, the read, and the number's two words with their report. -/
theorem serialCompletes : Obligations.SerialCompletes := by
  intro s b0 b1 b2 b3 b4 b5 h hw hr bs n ws
  have hws : serialFaults n = ws := serialFaults_serialOf ..
  rw [← hws]
  refine operation_answers 0x0D h ?_
  rw [command_busRead_data (n := 6) _ hw hr rfl, fillFrame_six, ← State.append_append _ _ (reportEvents ..)]
  rfl

/-! ### CLOSE (R247) -/

/-- Settles O35: admission lets CLOSE pass in a closed block too, and its one statement writes `LIFECYCLE`. -/
theorem closeCompletes : Obligations.CloseCompletes := by
  intro s hheld hl
  show operation 0x11 s (fun t => .go ⟨.empty, []⟩ (t.setLifecycle .closed)) = _
  rw [operation, admit_close hl, Flow.bind_go, closeOperation_of_ends _ hheld rfl, Flow.final_go, ← append_present,
    State.append_nil]
  rfl

end Sys2Proof.Machine
end

section
/-! SUPPORT. How every operation ends in its histories: the transactions that failed, the Fault events, and the response
they go with; and the statements about faults (R281 to R288, R302). -/

namespace Sys2Proof.Machine

/-! ### Failed transactions (R288) -/

/-- The error a transaction failed with: the one the bus answered, or IO for a read of the wrong length (R74, R75). -/
def BusEvent.failure : BusEvent → Option BusError
  | .write _ _ _ (.err e) | .read _ _ (.err e) => some e
  | .read _ n (.data bs) => if bs.length = n then none else some .io
  | .write _ _ _ .ack | .settle _ | .resetMark => none

theorem BusEvent.failure_eq_some_iff {x : BusEvent} {e : BusError} :
    x.failure = some e ↔ (∃ addr hi lo, x = .write addr hi lo (.err e)) ∨ (∃ addr n, x = .read addr n (.err e)) ∨
      (∃ addr n bs, x = .read addr n (.data bs) ∧ bs.length ≠ n ∧ e = .io) := by
  match x with
  | .write _ _ _ .ack | .settle _ | .resetMark => simp [failure]
  | .write _ _ _ (.err _) | .read _ _ (.err _) => simp [failure]
  | .read _ n (.data bs) => by_cases h : bs.length = n <;> simp [failure, h, Ne.symm, eq_comm (a := e)]

/-- The errors of the failed transactions among these events, in order. -/
def failures (es : List LogEvent) : List BusError := (busEvents es).filterMap BusEvent.failure

@[simp] theorem failures_append (a b : List LogEvent) : failures (a ++ b) = failures a ++ failures b := by
  simp [failures]

theorem failures_sinks (es : List SinkEvent) : failures (es.map .sink) = [] := by
  rw [failures, busEvents_sinks, List.filterMap_nil]

theorem failures_commandEvents (cfg : Config) (key : CtKey) (us : Nat) : failures (commandEvents cfg key us) = [] := rfl

theorem failures_readEvents_data (cfg : Config) (bs : List Byte) :
    failures (readEvents cfg bs.length (.data bs)) = [] := by
  simp [failures, BusEvent.failure]

theorem failure_of_fails {a : ReadAnswer} {n : Nat} {e : BusError} (addr : BusAddr) (h : ReadAnswer.Fails a n e) :
    (BusEvent.read addr n a).failure = some e := by
  obtain rfl | ⟨bs, rfl, hn, rfl⟩ := h
  · rfl
  · exact if_neg hn

theorem failure_eq_none_of_mem {es : List LogEvent} {x : BusEvent} (h : failures es = []) (hx : .bus x ∈ es) :
    x.failure = none :=
  List.filterMap_eq_nil_iff.mp h x (List.mem_filterMap.mpr ⟨_, hx, rfl⟩)

/-! ### What a flow has logged -/

/-- On the way from `s` to `u` no transaction failed. -/
def NoFailure (s u : State) : Prop := ∃ es, u.log = s.log ++ es ∧ failures es = []

/-- `NoFailure`, with the Fault event of each of these words logged on the way (R284). -/
def Reported (op : OpCode) (s : State) (ws : List WordName) (u : State) : Prop :=
  ∃ es, u.log = s.log ++ es ∧ failures es = [] ∧ ∀ w ∈ ws, faultEvent op (.protocol w) ∈ es

/-- The fault `d` of the flow that began in `s` is a transaction's, the first that failed and the last in the histories
(R288). -/
def FailedLast (s : State) (d : Detail) (u : State) : Prop :=
  ∃ es x e, d = .transport e ∧ u.log = s.log ++ (es ++ [.bus x]) ∧ failures es = [] ∧ x.failure = some e

/-- The statements of an operation raise no fault but the failed transaction's, or MODE_CONFLICT before they have done
anything (R201, R288). -/
def BodyRaises (s : State) (d : Detail) (u : State) : Prop := (d = .usage .modeConflict ∧ u = s) ∨ FailedLast s d u

section
variable {α : Type} {op : OpCode} {s u : State} {ws : List WordName}

theorem NoFailure.refl (s : State) : NoFailure s s := ⟨[], (List.append_nil _).symm, rfl⟩

theorem NoFailure.append (h : NoFailure s u) {es : List LogEvent} (he : failures es = []) :
    NoFailure s (u.append es) := by
  obtain ⟨l, hl, hf⟩ := h
  exact ⟨l ++ es, by simp [hl], by simp [hf, he]⟩

theorem NoFailure.failedLast (h : NoFailure s u) {x : BusEvent} {e : BusError} (hx : x.failure = some e) :
    FailedLast s (.transport e) (u.append [.bus x]) := by
  obtain ⟨l, hl, hf⟩ := h
  exact ⟨l, x, e, rfl, by simp [hl], hf, hx⟩

theorem NoFailure.nothing_reported (h : NoFailure s u) : Reported op s [] u := by
  obtain ⟨l, hl, hf⟩ := h
  exact ⟨l, hl, hf, nofun⟩

theorem NoFailure.report (h : NoFailure s u) (op : OpCode) (ws : List WordName) :
    Reported op s ws (u.report op ws) := by
  obtain ⟨l, hl, hf⟩ := h
  have he : failures (ws.map fun w => faultEvent op (.protocol w)) = [] :=
    congrArg (List.filterMap _) (busEvents_reportEvents op ws)
  exact ⟨_, (congrArg (· ++ _) hl).trans (List.append_assoc ..), by rw [failures_append, hf, he, List.append_nil],
    fun w hw => List.mem_append_right _ (List.mem_map.mpr ⟨w, hw, rfl⟩)⟩

theorem Reported.append_sinks (h : Reported op s ws u) (es : List SinkEvent) :
    Reported op s ws (u.append (es.map .sink)) := by
  obtain ⟨l, hl, hf, hw⟩ := h
  exact ⟨l ++ es.map .sink, by simp [hl], by simp [hf, failures_sinks], fun w hm => List.mem_append_left _ (hw w hm)⟩

/-! ### The statements of an operation -/

/-- A flow that began in `s` goes on after transactions that all succeeded, and raises at the first that failed. -/
abbrev Flow.StopsAtFailure (s : State) (f : Flow α) : Prop :=
  f.Meets false (fun _ => NoFailure s) (FailedLast s)

/-- The statements of an operation that began in `s`: when they respond, every word they report is logged. -/
abbrev Flow.Explains (op : OpCode) (s : State) (f : Flow Answer) : Prop :=
  f.Meets false (fun a => Reported op s a.reported) (BodyRaises s)

theorem command_stopsAtFailure (key : CtKey) (us : Nat) (h : NoFailure s u) :
    (command key us u).StopsAtFailure s := by
  obtain ⟨-, e⟩ | ⟨err, -, e⟩ | ⟨-, e⟩ := command_cases key us u <;> rw [e]
  · exact NoFailure.append h (failures_commandEvents ..)
  · exact NoFailure.failedLast h rfl
  · exact rfl

theorem busRead_stopsAtFailure (n : Nat) (h : NoFailure s u) : (busRead n u).StopsAtFailure s := by
  obtain ⟨bs, -, rfl, e⟩ | ⟨a, err, -, ha, e⟩ | ⟨-, e⟩ := busRead_cases n u <;> rw [e]
  · exact NoFailure.append h (failures_readEvents_data ..)
  · exact NoFailure.failedLast h (failure_of_fails _ ha)
  · exact rfl

theorem commandOnly_stopsAtFailure (key : CtKey) (h : NoFailure s u) :
    (commandOnly key u).Meets false (fun a => Reported op s a.reported) (FailedLast s) :=
  (command_stopsAtFailure key _ h).bind fun _ _ ht => ht.nothing_reported

theorem stopSampling_stopsAtFailure (s : State) : (stopSampling s).StopsAtFailure s := by
  unfold stopSampling
  split
  · exact .refl s
  · exact (command_stopsAtFailure _ _ (.refl s)).bind fun _ _ ht => ht

theorem readStatus_stopsAtFailure (op : OpCode) (s : State) :
    (readStatus op s).Meets false (fun r => Reported op s (statusFaults r)) (FailedLast s) :=
  (command_stopsAtFailure _ _ (.refl s)).bind fun _ _ ht =>
    (busRead_stopsAtFailure 3 ht).bind fun _ _ hu => NoFailure.report hu op _

section
variable {f : Flow Answer}

/-- Statements that check no mode raise only where a transaction failed. -/
theorem explains_of_failedLast (h : f.Meets false (fun a => Reported op s a.reported) (FailedLast s)) :
    f.Explains op s :=
  h.mono (fun _ _ hu => hu) fun _ _ => .inr

/-- The check of `MODE` comes first where there is one (R201). -/
theorem modeCheck_explains {c : Prop} [Decidable c]
    (h : f.Meets false (fun a => Reported op s a.reported) (FailedLast s)) :
    (if c then .raise (.usage .modeConflict) s else f).Explains op s := by
  split
  · exact .inl ⟨rfl, rfl⟩
  · exact explains_of_failedLast h

end

theorem singleShotBody_explains (p : Rep) (s : State) : (singleShotBody p s).Explains 0x04 s := by
  have hs : NoFailure s (s.setMode .singleShot) := .refl s
  refine modeCheck_explains (Flow.Meets.onRaise (E := FailedLast s) ?_ fun _ _ hu => hu)
  exact (command_stopsAtFailure _ _ hs).bind fun _ _ ht =>
    (busRead_stopsAtFailure 6 ht).bind fun _ _ hu => NoFailure.report hu 0x04 _

theorem startPeriodicBody_explains (r : Rate) (p : Rep) (s : State) : (startPeriodicBody r p s).Explains 0x05 s :=
  modeCheck_explains ((command_stopsAtFailure _ _ (.refl s)).bind fun _ _ ht => ht.nothing_reported)

end

/-! ### Every operation is admission, then its statements (R281) -/

theorem operandFault_singleShot : ∀ rep : BitVec 2,
    operandFault (.singleShot rep) = (repOfCode rep).elim (some .badRep) fun _ => none := by decide

theorem operandFault_startPeriodic : ∀ (rate : BitVec 3) (rep : BitVec 2),
    operandFault (.startPeriodic rate rep) =
      (rateOfCode rate).elim (some .badRate) fun _ => (repOfCode rep).elim (some .badRep) fun _ => none := by decide

/-- `body` is what the operation of `i` runs once admission has let the request pass, whose checks of the word are those
of `i`'s operand codes. -/
def RunsBody (i : Instr) (body : State → Flow Answer) : Prop :=
  (∀ s, exec i s = closeOperation i.opCode s ((admitRequest i.opCode (operandFault i) s).bind fun _ => body)) ∧
    ∀ s, (body s).Explains i.opCode s

/-- A request that is always refused could as well respond at once. -/
theorem runsBody_of_rejected {i : Instr} {d : ParamDetail} (hd : operandFault i = some d)
    (h : ∀ s, exec i s = rejectRequest i.opCode d s) : RunsBody i (fun t => .go ⟨.empty, []⟩ t) :=
  ⟨fun s => by rw [h, hd]; rfl, fun s => (NoFailure.refl s).nothing_reported⟩

theorem exists_runsBody (i : Instr) : ∃ body, RunsBody i body := by
  cases i with
  | crc8 | validate | close => exact ⟨_, fun _ => rfl, fun s => (NoFailure.refl s).nothing_reported⟩
  | decode => exact ⟨_, fun _ => rfl, fun s => (NoFailure.refl s).report ..⟩
  | singleShot rep =>
    have hf := operandFault_singleShot rep
    cases hp : repOfCode rep with
    | none =>
      rw [hp] at hf
      exact ⟨_, runsBody_of_rejected hf fun s => by simp only [exec, execSingleShot, hp, Instr.opCode]⟩
    | some p =>
      rw [hp] at hf
      exact ⟨_, fun s => by rw [exec_singleShot s hp, hf]; rfl, singleShotBody_explains p⟩
  | startPeriodic rate rep =>
    have hf := operandFault_startPeriodic rate rep
    cases hr : rateOfCode rate with
    | none =>
      rw [hr] at hf
      exact ⟨_, runsBody_of_rejected hf fun s => by simp only [exec, execStartPeriodic, hr, Instr.opCode]⟩
    | some r =>
      cases hp : repOfCode rep with
      | none =>
        rw [hr, hp] at hf
        exact ⟨_, runsBody_of_rejected hf fun s => by simp only [exec, execStartPeriodic, hr, hp, Instr.opCode]⟩
      | some p =>
        rw [hr, hp] at hf
        exact ⟨_, fun s => by rw [exec_startPeriodic s hr hp, hf]; rfl, startPeriodicBody_explains r p⟩
  | readData =>
    exact ⟨_, fun _ => rfl, fun s => modeCheck_explains
      ((busRead_stopsAtFailure 6 (.refl s)).bind fun _ _ hu => NoFailure.report hu 0x06 _)⟩
  | fetch => exact ⟨_, fun _ => rfl, fun s => modeCheck_explains (commandOnly_stopsAtFailure _ (.refl s))⟩
  | startArt =>
    exact ⟨_, fun _ => rfl, fun s => modeCheck_explains
      ((command_stopsAtFailure _ _ (.refl s)).bind fun _ _ hu => hu.nothing_reported)⟩
  | stop =>
    exact ⟨_, fun _ => rfl, fun s => explains_of_failedLast
      ((stopSampling_stopsAtFailure s).bind fun _ _ hu => hu.nothing_reported)⟩
  | softReset =>
    exact ⟨_, fun _ => rfl, fun s => explains_of_failedLast
      ((stopSampling_stopsAtFailure s).bind fun _ _ hu => commandOnly_stopsAtFailure _ hu)⟩
  | status =>
    exact ⟨_, fun _ => rfl, fun s => explains_of_failedLast ((readStatus_stopsAtFailure _ s).bind fun _ _ hu => hu)⟩
  | checkStatus =>
    exact ⟨_, fun _ => rfl, fun s => explains_of_failedLast
      ((readStatus_stopsAtFailure _ s).bind fun _ _ hu => Reported.append_sinks hu _)⟩
  | serial =>
    exact ⟨_, fun _ => rfl, fun s => explains_of_failedLast ((command_stopsAtFailure _ _ (.refl s)).bind fun _ _ hu =>
      (busRead_stopsAtFailure 6 hu).bind fun _ _ hv => NoFailure.report hv 0x0D _)⟩
  | heaterEn | heaterDis | clearStatus =>
    exact ⟨_, fun _ => rfl, fun s => explains_of_failedLast (commandOnly_stopsAtFailure _ (.refl s))⟩

/-! ### Requests that admission refuses (R281, R285 to R287) -/

section
variable {s : State} {d : Detail}

theorem exec_of_admit_raise {i : Instr} (hs : s.held = true)
    (h : admitRequest i.opCode (operandFault i) s = .raise d s) : exec i s = .next (s.faults i.opCode d []) := by
  obtain ⟨body, hexec, -⟩ := exists_runsBody i
  rw [hexec, h, Flow.bind_raise, closeOperation_of_ends _ hs rfl, Flow.final_raise, takeFault_eq_faults]

/-- A request word whose admission raises a fault takes it and does nothing else, an instruction's word or not. -/
theorem runRequest_of_admit_raise {w : Request} (hs : s.held = true)
    (h : admitRequest (opField w) (legal w) s = .raise d s) : runRequest w s = .next (s.faults (opField w) d []) := by
  cases hw : decodeRequest w with
  | instr i =>
    rw [← opCode_of_decodeRequest hw, legal_of_instr hw] at h
    rw [runRequest_of_instr s hw, exec_of_admit_raise hs h, opCode_of_decodeRequest hw]
  | bad p =>
    rw [(legal_of_bad hw).2] at h
    rw [runRequest_of_bad s hw, rejectRequest, h, Flow.bind_raise, closeOperation_of_ends _ hs rfl, Flow.final_raise,
      takeFault_eq_faults]

end

theorem operandFault_of_wellFormed {i : Instr} (h : i.wellFormed = true) : operandFault i = none := by
  cases i with
  | singleShot rep =>
    obtain ⟨p, hp⟩ := repOfCode_eq_some h
    rw [operandFault_singleShot, hp]
    rfl
  | startPeriodic rate rep =>
    obtain ⟨hrate, hrep⟩ := Bool.and_eq_true_iff.mp h
    obtain ⟨f, hf⟩ := rateOfCode_eq_some (of_decide_eq_true hrate)
    obtain ⟨p, hp⟩ := repOfCode_eq_some hrep
    rw [operandFault_startPeriodic, hf, hp]
    rfl
  | _ => rfl

theorem opCode_ne_close {i : Instr} (h : i ≠ .close) : i.opCode ≠ 0x11 := by
  cases i with
  | close => exact absurd rfl h
  | _ => exact fun hc => by simp [Instr.opCode] at hc

/-- Settles O37: the operand codes are legal, so admission gets as far as CLOSED. -/
theorem closedRefusesAllButClose : Obligations.ClosedRefusesAllButClose := by
  intro s i hs hl hw hi
  refine exec_of_admit_raise hs ?_
  rw [operandFault_of_wellFormed hw, admit_closed hl (opCode_ne_close hi)]

/-- Settles O38: admission looks at CONFIG_ERROR first, and in a held state the check has a detail there. -/
theorem configErrorRefusesEveryWord : Obligations.ConfigErrorRefusesEveryWord := by
  intro s w hs hl
  obtain ⟨hcheck, -⟩ := held_iff.mp hs
  obtain ⟨d, hd⟩ := Option.isSome_iff_exists.mp (hcheck.mp hl)
  have hdetail : configDetail s.config = d := by rw [configDetail, hd, Option.getD_some]
  exact ⟨d, hd, runRequest_of_admit_raise hs (hdetail ▸ admit_configError _ _ hl)⟩

/-! ### How an operation concludes -/

/-- The states an operation of `i` that began in `s` can end in, told by the events it appended and the response it
presents: it responds, or takes a fault before it has done anything, or takes that of a failed transaction. -/
inductive Concludes (i : Instr) (s : State) : State → Prop
  | responds (a : Answer) (u : State) (hu : Reported i.opCode s a.reported u) : Concludes i s (u.present (responseOf a))
  | refused (d : Detail) (htransport : ∀ e, d ≠ .transport e)
      (hparam : ∀ p, d = .invalidParameter p → operandFault i = some p) : Concludes i s (s.takeFault i.opCode d)
  | failed (d : Detail) (u : State) (hu : FailedLast s d u) : Concludes i s (u.takeFault i.opCode d)

theorem exec_concludes {i : Instr} {s t : State} (h : exec i s = .next t) : Concludes i s t := by
  obtain ⟨r, -, hrsp, -⟩ := (exec_ends h).response
  obtain ⟨body, hexec, hbody⟩ := exists_runsBody i
  obtain ⟨-, rfl, -⟩ := closeOperation_next (hexec s ▸ h)
  obtain ⟨ha, -⟩ | ⟨d, ha, hd⟩ := admit_cases i.opCode (operandFault i) s <;> rw [ha] at hrsp ⊢
  · have hb := hbody s
    rw [Flow.bind_go] at hrsp ⊢
    generalize body s = f at hb hrsp ⊢
    cases f with
    | go a u => exact .responds a u hb
    | raise d u =>
      obtain ⟨rfl, rfl⟩ | hu := hb
      · exact .refused (.usage .modeConflict) nofun nofun
      · exact .failed d u hu
    | never =>
      -- A flow that hangs leaves the state as it was, but the operation has presented its response.
      simp [Flow.final] at hrsp
  · obtain ⟨-, rfl⟩ | ⟨p, hp, rfl⟩ | ⟨-, rfl⟩ := hd
    · exact .refused (.configuration _) nofun nofun
    · exact .refused (.invalidParameter p) nofun fun q hq => Detail.invalidParameter.inj hq ▸ hp
    · exact .refused (.usage .closed) nofun nofun

/-- A response is OK, or its detail is a word that was reported (R282). -/
theorem responseOf_cases (a : Answer) :
    ((responseOf a).code = .ok ∧ (responseOf a).detail = none) ∨
    ∃ w ∈ a.reported, (responseOf a).code = .protocolFault ∧ (responseOf a).detail = some (.protocol w) := by
  obtain ⟨p, _ | ⟨w, ws⟩⟩ := a
  · exact .inl ⟨rfl, rfl⟩
  · exact .inr ⟨w, List.mem_cons_self .., rfl, rfl⟩

/-- A response that was not raised has no detail of a raised fault. -/
theorem responseOf_detail_ne (a : Answer) {d : Detail} (h : ∀ w, d ≠ .protocol w) : (responseOf a).detail ≠ some d := by
  obtain ⟨-, e⟩ | ⟨w, -, -, e⟩ := responseOf_cases a <;> rw [e]
  · exact nofun
  · exact fun hd => h w (Option.some.inj hd).symm

/-- Settles O6: the first half is admission; for the second, an operation of a legal word raises that class of fault on
no way to its end. -/
theorem illegalWordsOnlyReport : Obligations.IllegalWordsOnlyReport := by
  intro w d s hs hl
  have refuses {p : ParamDetail} (hw : legal w = some p) :
      runRequest w s = .next (s.faults (opField w) (.invalidParameter p) []) :=
    runRequest_of_admit_raise hs (hw ▸ admit_bad _ p hl)
  refine ⟨refuses, fun t h ht => ?_⟩
  cases hw : decodeRequest w with
  | bad p =>
    have hlegal := (legal_of_bad hw).2
    rw [refuses hlegal] at h
    cases h
    simpa [State.faults, State.answers, hlegal] using ht
  | instr i =>
    rw [legal_of_instr hw]
    cases exec_concludes (runRequest_of_instr s hw ▸ h) with
    | responds a u hu => exact absurd (Option.some.inj ht) (responseOf_detail_ne a nofun)
    | refused p _ hparam => exact hparam d (Option.some.inj (Option.some.inj ht))
    | failed _ u hu =>
      obtain ⟨_, _, e, rfl, -⟩ := hu
      exact nomatch Option.some.inj (Option.some.inj ht)

/-- Settles O42: a response that is not OK names a reported word, whose event is logged, or a raised fault, whose event
is the last one. -/
theorem everyFaultIsFlagged : Obligations.EveryFaultIsFlagged := by
  intro i s t h
  cases exec_concludes h with
  | responds a u hu =>
    obtain ⟨es, hlog, -, hreported⟩ := hu
    refine ⟨es, responseOf a, hlog, rfl, fun hc => ?_⟩
    obtain ⟨hok, -⟩ | ⟨w, hw, hcode, hdetail⟩ := responseOf_cases a
    · exact absurd hok hc
    · exact ⟨_, hdetail, hcode ▸ hreported w hw⟩
  | refused d => exact ⟨_, _, rfl, rfl, fun _ => ⟨d, rfl, List.mem_singleton_self _⟩⟩
  | failed d u hu =>
    obtain ⟨es, x, _, -, hlog, -⟩ := hu
    exact ⟨_, _, (congrArg (· ++ _) hlog).trans (List.append_assoc ..), rfl,
      fun _ => ⟨d, rfl, List.mem_append_right _ (List.mem_singleton_self _)⟩⟩

/-- Settles O41: no transaction fails on the way to any end but the fault of the last one. -/
theorem transportErrorEndsAtItsTransaction : Obligations.TransportErrorEndsAtItsTransaction := by
  intro i s t h failed
  have hfailed (x e) : failed x e ↔ x.failure = some e := BusEvent.failure_eq_some_iff.symm
  simp only [hfailed]
  cases exec_concludes h with
  | responds a u hu =>
    obtain ⟨es, hlog, hes, -⟩ := hu
    refine ⟨es, hlog, fun x e hx he => ?_, fun e he => ?_⟩
    · exact nomatch (failure_eq_none_of_mem hes hx).symm.trans he
    · exact absurd (Option.some.inj he) (responseOf_detail_ne a nofun)
  | refused d htransport =>
    refine ⟨_, rfl, fun x e hx _ => ?_, fun e he => ?_⟩
    · exact nomatch List.mem_singleton.mp hx
    · exact absurd (Option.some.inj (Option.some.inj he)) (htransport e)
  | failed _ u hu =>
    obtain ⟨es, x, e, rfl, hlog, hes, hx⟩ := hu
    have hnew : (u.takeFault i.opCode (.transport e)).log =
        s.log ++ (es ++ [.bus x, faultEvent i.opCode (.transport e)]) := by
      simp [State.takeFault, hlog]
    refine ⟨_, hnew, fun y e' hy he' => ?_, fun e' he' => ?_⟩
    · obtain hy | hy := List.mem_append.mp hy
      · exact nomatch (failure_eq_none_of_mem hes hy).symm.trans he'
      · obtain rfl : y = x := by simpa [faultEvent] using hy
        obtain rfl : e = e' := Option.some.inj (hx.symm.trans he')
        rfl
    · obtain rfl : e = e' := Detail.transport.inj (Option.some.inj (Option.some.inj he'))
      exact ⟨es, x, hx, rfl⟩

end Sys2Proof.Machine
end

section
/-! SUPPORT. The histories are written only: states that differ in their histories are indistinct to every operation
(R305). -/

namespace Sys2Proof.Machine

/-- The same events have come after the history `l` in `s` and after `l'` in `s'`, and the two agree in everything
else. -/
def SameSince (l l' : List LogEvent) (s s' : State) : Prop :=
  ∃ es, s.log = l ++ es ∧ s' = { s with log := l' ++ es }

/-- No statement reads the histories, and every update appends the same events to both. -/
theorem indistinct_sameSince (l l' : List LogEvent) : Indistinct (SameSince l l') where
  config := by rintro s _ ⟨es, h, rfl⟩; rfl
  lifecycle := by rintro s _ ⟨es, h, rfl⟩; rfl
  mode := by rintro s _ ⟨es, h, rfl⟩; rfl
  nextWriteAnswer := by rintro s _ ⟨es, h, rfl⟩; rfl
  nextReadAnswer := by rintro s _ ⟨es, h, rfl⟩; rfl
  busAnswers := by rintro s _ ⟨es, h, rfl⟩; rfl
  setLifecycle := by rintro s _ ⟨es, h, rfl⟩ _; exact ⟨es, h, rfl⟩
  setMode := by rintro s _ ⟨es, h, rfl⟩ _; exact ⟨es, h, rfl⟩
  setLastReading := by rintro s _ ⟨es, h, rfl⟩ _; exact ⟨es, h, rfl⟩
  append := by rintro s _ ⟨es, h, rfl⟩ new; exact ⟨es ++ new, by simp [h], by simp [State.append]⟩
  checksum := by rintro s _ ⟨es, h, rfl⟩ _; exact ⟨es, h, rfl⟩
  fillFrame := by rintro s _ ⟨es, h, rfl⟩ _; exact ⟨es, h, rfl⟩
  present := by rintro s _ ⟨es, h, rfl⟩ _; exact ⟨es, h, rfl⟩
  consumeWrite := by rintro s _ ⟨es, h, rfl⟩; exact ⟨es, h, rfl⟩
  consumeRead := by rintro s _ ⟨es, h, rfl⟩; exact ⟨es, h, rfl⟩

/-- Settles O51: the operation runs alike after its own history and after any other. -/
theorem historiesAreNeverRead : Obligations.HistoriesAreNeverRead := by
  intro i s t l h
  have hstart : SameSince s.log l s { s with log := l } := ⟨[], by simp, by simp⟩
  obtain ⟨_, h', es, hlog, rfl⟩ := exec_followedBy (indistinct_sameSince s.log l) i hstart t h
  exact ⟨es, hlog, h'⟩

end Sys2Proof.Machine
end

section
/-! SUPPORT. The configuration check, by the first item that fails (R286). -/

namespace Sys2Proof.Machine

theorem firstAbsent_eq_none {t : CommandTable} {keys : List CtKey} :
    firstAbsent t keys = none ↔ ∀ k ∈ keys, keyPresent t k = true := by
  simp [firstAbsent]

/-- The first absent key stands behind present ones only. -/
theorem firstAbsent_eq_some {t : CommandTable} {keys : List CtKey} {k : CtKey} :
    firstAbsent t keys = some k ↔ ∃ before after, keys = before ++ k :: after ∧ keyPresent t k = false ∧
      ∀ x ∈ before, keyPresent t x = true := by
  simp only [firstAbsent, List.find?_eq_some_iff_append, Bool.not_eq_true', Bool.not_not]
  exact ⟨fun ⟨hk, before, after, h, hb⟩ => ⟨before, after, h, hk, hb⟩,
    fun ⟨before, after, h, hk, hb⟩ => ⟨hk, before, after, h, hb⟩⟩

theorem mem_keyOrder (k : CtKey) : k ∈ keyOrder := by
  cases k with
  | singleShot rep => cases rep <;> decide
  | periodic rate rep => cases rate <;> cases rep <;> decide
  | _ => decide

/-- Once the bus is set and available, the command table is checked, then the last parameter. -/
theorem configCheck_of_available {cfg : Config} {b : Nat} (h : cfg.busIndex = some b) (hb : b ∉ cfg.unavailableBus) :
    configCheck cfg = (firstAbsent cfg.ct keyOrder).elim
      (if cfg.statusDefaultRd = none then some (.paramUnset .statusDefaultRd) else none)
      (fun k => some (.tableEntryMissing k)) := by
  simp only [configCheck, h, if_neg hb, Option.isNone_iff_eq_none]
  cases firstAbsent cfg.ct keyOrder <;> rfl

/-- Settles O56: three cases of BUS_INDEX, and in the last of them the table's first absent key, if any, and then
STATUS_DEFAULT_RD decide. -/
theorem configCheckIsFirstFailure : Obligations.ConfigCheckIsFirstFailure := by
  intro cfg
  rw [← firstAbsent_eq_none]
  simp only [← firstAbsent_eq_some]
  rw [← and_assoc, ← and_assoc, ← and_assoc, ← and_assoc]
  refine ⟨?_, rfl, mem_keyOrder⟩
  cases hbus : cfg.busIndex with
  | none => simp [configCheck, hbus]
  | some b =>
    by_cases hb : b ∈ cfg.unavailableBus
    · simp [configCheck, hbus, hb]
    · rw [configCheck_of_available hbus hb]
      cases habsent : firstAbsent cfg.ct keyOrder with
      | some k => simp [hb]
      | none => cases hrd : cfg.statusDefaultRd <;> simp [hb]

end Sys2Proof.Machine
end

section
/-! SUPPORT. What a settled history says of its entries: from an acknowledged Write on, the scan leaves the waiting
state by a Settle only (R325); and a reset that finds a request in progress (R322). -/

namespace Sys2Proof.Machine

/-! ### The scan of a bus log, away from its accepting state -/

/-- A transaction that came too early is never made good. -/
theorem foldl_settleScan_none (es : List BusEvent) : es.foldl settleScan none = none := by
  induction es with
  | nil => rfl
  | cons _ es ih => exact ih

theorem settleScan_ack_ne (o : Option Bool) (addr : BusAddr) (hi lo : Byte) :
    settleScan o (.write addr hi lo .ack) ≠ some false := by
  rcases o with _ | _ | _ <;> simp [settleScan]

/-- A Write that waits for its Settle still waits after any stretch of the log that holds none. -/
theorem foldl_settleScan_ne {es : List BusEvent} (hes : ∀ us, .settle us ∉ es) {o : Option Bool}
    (ho : o ≠ some false) : es.foldl settleScan o ≠ some false := by
  induction es generalizing o with
  | nil => exact ho
  | cons e es ih =>
    have hstep : settleScan o e ≠ some false := by
      rcases o with _ | _ | _
      · exact nofun
      · exact absurd rfl ho
      · cases e with
        | settle us => exact absurd List.mem_cons_self (hes us)
        | write | read | resetMark => simp [settleScan]
    exact ih (fun us hus => hes us (List.mem_cons_of_mem _ hus)) hstep

/-- A transaction while a Write waits for its Settle is the violation the scan looks for. -/
theorem settleScan_transaction {o : Option Bool} {x : BusEvent} (ho : o ≠ some false)
    (hx : x.isWrite = true ∨ x.isRead = true) : settleScan o x = none := by
  rcases o with _ | _ | _
  · rfl
  · exact absurd rfl ho
  · cases x with
    | write | read => rfl
    | settle | resetMark => simp [BusEvent.isWrite, BusEvent.isRead] at hx

/-- In a settled log a Settle stands between an acknowledged Write and any later transaction. -/
theorem Settled.settle_mem_between {a b c : List BusEvent} {addr : BusAddr} {hi lo : Byte} {x : BusEvent}
    (h : Settled (a ++ [.write addr hi lo .ack] ++ b ++ [x] ++ c)) (hx : x.isWrite = true ∨ x.isRead = true) :
    ∃ us, .settle us ∈ b := by
  by_contra! hb
  simp only [Settled, List.foldl_append, List.foldl_cons, List.foldl_nil] at h
  rw [settleScan_transaction (foldl_settleScan_ne hb (settleScan_ack_ne _ addr hi lo)) hx, foldl_settleScan_none] at h
  cases h

/-! ### The two statements about a step -/

/-- Settles O60: the invariant holds after the step, and it says that the bus log is settled. -/
theorem settleStandsBetweenTransactions : Obligations.SettleStandsBetweenTransactions := by
  intro s t hs h a b c addr hi lo x hlog hx
  have hsettled : Settled t.busLog := (stepKeepsInvariant s t hs h).settled
  rw [hlog] at hsettled
  exact hsettled.settle_mem_between hx

/-- Settles O55, by the equation of `step` for a reset that finds `REQ_READY` low. -/
theorem resetDuringRequestHasNoMove : Obligations.ResetDuringRequestHasNoMove :=
  fun _ _ _ => step_of_reset_busy

end Sys2Proof.Machine
end

section
/-! SUPPORT. Operations that meet a bus that never answers (R327; assumption 9): at their first command, at the read
behind an acknowledged one, and at SOFT_RESET's second command. -/

namespace Sys2Proof.Machine

/-- Statements that never come to their end, with a silence listed, leave an open block stuck. -/
theorem operation_stuck {s : State} {body : State → Flow Answer} (op : OpCode) (h : s.Open)
    (hs : s.busAnswers = false) (hb : body s = .never) : operation op s body = .fault .busNeverAnswers := by
  rw [operation_opened op body h, hb, closeOperation_never op h.1 hs]

/-- A silence that is still to come after one write was listed before it. -/
theorem busAnswers_of_consumeWrite {s : State} (h : s.consumeWrite.busAnswers = false) : s.busAnswers = false :=
  Bool.eq_false_iff.mpr fun hs => Bool.eq_false_iff.mp h (busAnswers_consumeWrite s hs)

/-- The sampling modes are all that an open block can be in besides Idle (R35). -/
theorem State.Open.sampling {s : State} (h : s.Open) (hm : s.mode ≠ .idle) : ¬ s.mode.sampling = false := by
  have hne : s.mode ≠ .singleShot := (held_iff.mp h.1).2
  cases hmode : s.mode with
  | idle => exact absurd hmode hm
  | singleShot => exact absurd hmode hne
  | periodic | acceleratedResponse => simp [Mode.sampling]

section
variable {s : State} {body : State → Flow Answer} {key : CtKey} {us : Nat}

/-- An operation whose first transaction is a command. -/
theorem operation_command_stuck {k : Unit → State → Flow Answer} (op : OpCode) (h : s.Open)
    (hw : s.nextWriteAnswer = none) (hb : body s = (command key us s).bind k) :
    operation op s body = .fault .busNeverAnswers :=
  operation_stuck op h (busAnswers_of_nextWriteAnswer_none hw)
    (by rw [hb, command_never key us hw, Flow.bind_never])

/-- An acknowledged command with a silent read behind it goes nowhere. -/
theorem command_busRead_never {α : Type} {n : Nat} {k : List Byte → State → Flow α}
    (hw : s.nextWriteAnswer = some .ack) (hr : s.nextReadAnswer = none) :
    ((command key us s).bind fun _ t => (busRead n t).bind k) = .never := by
  rw [command_ack key us hw, Flow.bind_go, busRead_never (s := s.consumeWrite.append _) n hr, Flow.bind_never]

/-- An operation that begins with a command and a read. -/
theorem operation_command_busRead_stuck {n : Nat} {k : List Byte → State → Flow Answer} (op : OpCode) (h : s.Open)
    (hw : s.nextWriteAnswer = some .ack) (hr : s.nextReadAnswer = none)
    (hb : body s = (command key us s).bind fun _ t => (busRead n t).bind k) :
    operation op s body = .fault .busNeverAnswers :=
  operation_stuck op h (busAnswers_of_nextReadAnswer_none hr) (hb.trans (command_busRead_never hw hr))

end

section
variable {s : State}

/-! ### SINGLE_SHOT (R204) -/

/-- The three legal repeatability codes (R104). -/
theorem exists_rep_of_mem {i : Instr} (h : i ∈ [Instr.singleShot 0, .singleShot 1, .singleShot 2]) :
    ∃ rep p, i = .singleShot rep ∧ repOfCode rep = some p := by
  simp only [List.mem_cons, List.not_mem_nil, or_false] at h
  obtain rfl | rfl | rfl := h
  · exact ⟨0, .high, rfl, rfl⟩
  · exact ⟨1, .medium, rfl, rfl⟩
  · exact ⟨2, .low, rfl, rfl⟩

theorem singleShotBody_write_never (p : Rep) (hm : s.mode = .idle) (hw : s.nextWriteAnswer = none) :
    singleShotBody p s = .never := by
  rw [singleShotBody_idle p hm, command_never (s := s.setMode .singleShot) _ _ hw]
  rfl

theorem singleShotBody_read_never (p : Rep) (hm : s.mode = .idle) (hw : s.nextWriteAnswer = some .ack)
    (hr : s.nextReadAnswer = none) : singleShotBody p s = .never := by
  rw [singleShotBody_idle p hm, command_busRead_never (s := s.setMode .singleShot) hw hr, Flow.onRaise_never]

/-! ### The stop (R209, R240) -/

theorem stopSampling_never (hm : s.mode ≠ .idle) (hw : s.nextWriteAnswer = none) : stopSampling s = .never := by
  rw [stopSampling, if_neg hm, command_never _ _ hw, Flow.bind_never]

/-- SOFT_RESET from Idle begins with the reset command, from another mode with the stop. -/
theorem softReset_write_stuck (h : s.Open) (hw : s.nextWriteAnswer = none) :
    exec .softReset s = .fault .busNeverAnswers := by
  refine operation_stuck 0x0A h (busAnswers_of_nextWriteAnswer_none hw) ?_
  by_cases hm : s.mode = .idle
  · rw [stopSampling_idle hm, Flow.bind_go, commandOnly, command_never _ _ hw, Flow.bind_never]
  · rw [stopSampling_never hm hw, Flow.bind_never]

/-- Once the stop was acknowledged, SOFT_RESET waits at the reset command. -/
theorem softReset_afterStop_stuck (h : s.Open) (hm : s.mode ≠ .idle) (hw : s.nextWriteAnswer = some .ack)
    (hw' : s.consumeWrite.nextWriteAnswer = none) : exec .softReset s = .fault .busNeverAnswers := by
  have hs := busAnswers_of_consumeWrite (busAnswers_of_nextWriteAnswer_none hw')
  refine operation_stuck 0x0A h hs ?_
  rw [stopSampling_ack hm hw, Flow.bind_go, commandOnly,
    command_never (s := (s.consumeWrite.append _).setMode .idle) _ _ hw', Flow.bind_never]

/-! ### The first transaction of every operation -/

/-- Operations whose first transaction is a write in every mode. -/
theorem anyMode_write_stuck {i : Instr} (h : s.Open) (hw : s.nextWriteAnswer = none)
    (hi : i ∈ [Instr.softReset, .status, .checkStatus, .serial, .heaterEn, .heaterDis, .clearStatus]) :
    exec i s = .fault .busNeverAnswers := by
  simp only [List.mem_cons, List.not_mem_nil, or_false] at hi
  obtain rfl | rfl | rfl | rfl | rfl | rfl | rfl := hi
  · exact softReset_write_stuck h hw
  · exact operation_command_stuck 0x0B h hw (readStatus_bind ..)
  · exact operation_command_stuck 0x0C h hw (readStatus_bind ..)
  · exact operation_command_stuck 0x0D h hw rfl
  · exact operation_command_stuck 0x0E h hw rfl
  · exact operation_command_stuck 0x0F h hw rfl
  · exact operation_command_stuck 0x10 h hw rfl

theorem singleShot_write_stuck {rep : BitVec 2} {p : Rep} (h : s.Open) (hm : s.mode = .idle)
    (hp : repOfCode rep = some p) (hw : s.nextWriteAnswer = none) :
    exec (.singleShot rep) s = .fault .busNeverAnswers := by
  rw [exec_singleShot s hp]
  exact operation_stuck 0x04 h (busAnswers_of_nextWriteAnswer_none hw) (singleShotBody_write_never p hm hw)

theorem startArt_write_stuck (h : s.Open) (hm : s.mode = .idle) (hw : s.nextWriteAnswer = none) :
    exec .startArt s = .fault .busNeverAnswers :=
  operation_command_stuck 0x08 h hw (if_neg (not_not.mpr hm))

theorem startPeriodic_write_stuck {rate : BitVec 3} {rep : BitVec 2} (h : s.Open) (hm : s.mode = .idle)
    (hwf : (Instr.startPeriodic rate rep).wellFormed = true) (hw : s.nextWriteAnswer = none) :
    exec (.startPeriodic rate rep) s = .fault .busNeverAnswers := by
  obtain ⟨hrate, hrep⟩ := Bool.and_eq_true_iff.mp hwf
  obtain ⟨f, hf⟩ := rateOfCode_eq_some (of_decide_eq_true hrate)
  obtain ⟨p, hp⟩ := repOfCode_eq_some hrep
  rw [exec_startPeriodic s hf hp]
  exact operation_command_stuck 0x05 h hw (if_neg (not_not.mpr hm))

theorem fetch_write_stuck (h : s.Open) (hm : s.mode ≠ .idle) (hw : s.nextWriteAnswer = none) :
    exec .fetch s = .fault .busNeverAnswers :=
  operation_command_stuck 0x07 h hw (if_neg (h.sampling hm))

theorem stop_write_stuck (h : s.Open) (hm : s.mode ≠ .idle) (hw : s.nextWriteAnswer = none) :
    exec .stop s = .fault .busNeverAnswers :=
  operation_stuck 0x09 h (busAnswers_of_nextWriteAnswer_none hw) (by rw [stopSampling_never hm hw, Flow.bind_never])

theorem readData_read_stuck (h : s.Open) (hm : s.mode ≠ .idle) (hr : s.nextReadAnswer = none) :
    exec .readData s = .fault .busNeverAnswers := by
  refine operation_stuck 0x06 h (busAnswers_of_nextReadAnswer_none hr) ?_
  rw [if_neg (h.sampling hm), busRead_never _ hr, Flow.bind_never]

/-! ### The read behind an acknowledged command -/

theorem deviceRead_stuck {i : Instr} (h : s.Open) (hw : s.nextWriteAnswer = some .ack)
    (hr : s.nextReadAnswer = none) (hi : i ∈ [Instr.status, .checkStatus, .serial]) :
    exec i s = .fault .busNeverAnswers := by
  simp only [List.mem_cons, List.not_mem_nil, or_false] at hi
  obtain rfl | rfl | rfl := hi
  · exact operation_command_busRead_stuck 0x0B h hw hr (readStatus_bind ..)
  · exact operation_command_busRead_stuck 0x0C h hw hr (readStatus_bind ..)
  · exact operation_command_busRead_stuck 0x0D h hw hr rfl

theorem singleShot_read_stuck {rep : BitVec 2} {p : Rep} (h : s.Open) (hm : s.mode = .idle)
    (hp : repOfCode rep = some p) (hw : s.nextWriteAnswer = some .ack) (hr : s.nextReadAnswer = none) :
    exec (.singleShot rep) s = .fault .busNeverAnswers := by
  rw [exec_singleShot s hp]
  exact operation_stuck 0x04 h (busAnswers_of_nextReadAnswer_none hr) (singleShotBody_read_never p hm hw hr)

end

/-- Settles O40: at the silent transaction the operation's statements go nowhere, and the silence is a listed one. -/
theorem silentBusIsStuck : Obligations.SilentBusIsStuck := by
  intro s i h
  refine ⟨fun hw hi => ?_, fun hr hm => readData_read_stuck h hm hr,
    fun hw hw' hm => softReset_afterStop_stuck h hm hw hw', fun hw hr hi => ?_⟩
  · obtain hi | ⟨hm, hi⟩ | ⟨hm, rate, rep, rfl, hwf⟩ | ⟨hm, hi⟩ := hi
    · exact anyMode_write_stuck h hw hi
    · obtain hi | rfl : i ∈ [Instr.singleShot 0, .singleShot 1, .singleShot 2] ∨ i = .startArt := by
        simpa [or_assoc] using hi
      · obtain ⟨rep, p, rfl, hp⟩ := exists_rep_of_mem hi
        exact singleShot_write_stuck h hm hp hw
      · exact startArt_write_stuck h hm hw
    · exact startPeriodic_write_stuck h hm hwf hw
    · simp only [List.mem_cons, List.not_mem_nil, or_false] at hi
      obtain rfl | rfl := hi
      · exact fetch_write_stuck h hm hw
      · exact stop_write_stuck h hm hw
  · obtain hi | ⟨hm, hi⟩ := hi
    · exact deviceRead_stuck h hw hr hi
    · obtain ⟨rep, p, rfl, hp⟩ := exists_rep_of_mem hi
      exact singleShot_read_stuck h hm hp hw hr

end Sys2Proof.Machine
end
